-- ==== Sys2Proof/Word.lean ====
section
/-! DEFINITION. Word.lean: the widths in which the NC16 exchanges values with the outside, and the unit in which the
model counts time. -/

namespace Sys2Proof

/-- A byte of a host frame, a drop frame or the read buffer (00_scope.md, Byte and bit order). -/
abbrev Byte := BitVec 8

/-- A two-byte field of a frame, sent most significant byte first (00_scope.md, Byte and bit order). -/
abbrev Word := BitVec 16

/-- A time of the part, in microseconds from an origin of the model's own (DESIGN CHOICE, log entry 2). -/
abbrev Time := Nat

end Sys2Proof
end

