-- ==== Sys2Proof/Config.lean ====
section
/-! DEFINITION. Config.lean: what the NC16 fixes once for all: the sizes of its stores, the ranges of its numbers and its
units of time. -/

namespace Sys2Proof

/-- The index of a transaction entry: the table holds 48 entries, numbered 0 to 47 (R1). -/
abbrev EntryIx := Fin 48

/-- The number of a read-buffer block: 96 blocks of 16 bytes (R37). -/
abbrev BlockIx := Fin 96

/-- A logical node number, 0 to 15 (R46). -/
abbrev NodeIx := Fin 16

/-- A drop line, DL0 to DL3 (R71). -/
abbrev LineIx := Fin 4

/-- A drop position on a line, 0 to 3 (R46). -/
abbrev DropIx := Fin 4

/-- A per-node sequence number, 0 to 15; sequence numbers count modulo 16 (00_scope.md, Arithmetic). -/
abbrev Seq := Fin 16

/-- A host-chosen tag, 0 to 31 (R3). -/
abbrev Tag := Fin 32

/-- The entry indexes in increasing order. -/
abbrev allEntries : List EntryIx := List.finRange 48

/-- The block numbers in increasing order. -/
abbrev allBlocks : List BlockIx := List.finRange 96

/-- The node numbers in increasing order. -/
abbrev allNodes : List NodeIx := List.finRange 16

/-- The sequence numbers in increasing order. -/
abbrev allSeqs : List Seq := List.finRange 16

/-- The drop positions in increasing order. -/
abbrev allDrops : List DropIx := List.finRange 4

/-- The lines in increasing order. -/
abbrev allLines : List LineIx := List.finRange 4

/-- Microseconds in one tick of 10 µs (00_scope.md, Units). -/
abbrev usPerTick : Nat := 10

/-- Microseconds in one millisecond (00_scope.md, Units). -/
abbrev usPerMs : Nat := 1000

/-- Microseconds one byte takes on a drop line: ten bits at 250 kbit/s (R189, section 11.5). -/
abbrev byteTime : Nat := 40

/-- Bytes in one block of the read buffer (R37). -/
abbrev blockBytes : Nat := 16

/-- What a byte of the read buffer that nothing has written reads as. No command reads such a byte
(DESIGN CHOICE, log entry 6). -/
abbrev blankByte : Byte := 0

end Sys2Proof
end

