-- ==== Sys2Proof/Syntax.lean ====
section
/-! DEFINITION. Syntax.lean: the commands of the NC16, one constructor for each row of spec/opcode_table.json.

Every command carries `t`, the time of the event in microseconds: "Now" is the time of the event being described
(00_scope.md, Time; log entry 2). A host command carries the port that receives its frame, the flags byte, the operands
as the frame's payload gives them (unsigned bytes and words, R188) and the check byte as the host clocks it (R159). A
node answer carries the line it arrives on and the fields its frame holds (section 11.4), INVALID_ANSWER the bytes themselves. -/

namespace Sys2Proof

/-- The two host ports (R157). -/
inductive Port where
  | a
  | b
  deriving DecidableEq, Repr

/-- A byte received on a drop line: its eight data bits, and whether its stop bit was there (R189). -/
structure LineByte where
  value : Byte
  stop : Bool
  deriving DecidableEq, Repr

/-- A byte of INVALID_ANSWER: the byte, and how many microseconds before the time of the command it was received (R74). -/
structure HeardByte where
  byte : LineByte
  ago : Nat
  deriving DecidableEq, Repr

/-- The commands: what a host sends, what a pin does, what a node answers and what a timer reaches. -/
inductive Instr where
  /-- SUBMIT_READ (R165): the host's frame up to its check byte. -/
  | submitRead (t : Time) (p : Port) (flags tag node : Byte) (addr len : Word) (check : Byte)
  /-- SUBMIT_WRITE (R165), with the write payload. -/
  | submitWrite (t : Time) (p : Port) (flags tag node : Byte) (addr : Word) (payload : List Byte) (check : Byte)
  /-- CANCEL (R142). -/
  | cancel (t : Time) (p : Port) (flags tag check : Byte)
  /-- QUERY (R167). -/
  | query (t : Time) (p : Port) (flags tag check : Byte)
  /-- COLLECT (R132). -/
  | collect (t : Time) (p : Port) (flags check : Byte)
  /-- PORT_STATUS (R168); bit 0 of the flags is the clear flag. -/
  | portStatus (t : Time) (p : Port) (flags check : Byte)
  /-- READ_EVENTS (R176). -/
  | readEvents (t : Time) (p : Port) (flags check : Byte)
  /-- PORT_RESET (R148). -/
  | portReset (t : Time) (p : Port) (flags check : Byte)
  /-- NODE_ATTACH (R49). -/
  | nodeAttach (t : Time) (p : Port) (flags node line drop window mode check : Byte)
  /-- NODE_DETACH (R56). -/
  | nodeDetach (t : Time) (p : Port) (flags node check : Byte)
  /-- NODE_REPROBE (R57). -/
  | nodeReprobe (t : Time) (p : Port) (flags node check : Byte)
  /-- NODE_STATUS (R169); bit 0 of the flags is the clear flag. -/
  | nodeStatus (t : Time) (p : Port) (flags node check : Byte)
  /-- LINE_STATUS (R170); bit 0 of the flags is the clear flag. -/
  | lineStatus (t : Time) (p : Port) (flags line check : Byte)
  /-- SET_PARAM (R182). -/
  | setParam (t : Time) (p : Port) (flags : Byte) (number value : Word) (check : Byte)
  /-- GET_PARAM (R183). -/
  | getParam (t : Time) (p : Port) (flags : Byte) (number : Word) (check : Byte)
  /-- DEVICE_RESET (R152). -/
  | deviceReset (t : Time) (p : Port) (flags check : Byte)
  /-- ECHO (R172), with the payload to return. -/
  | echo (t : Time) (p : Port) (flags : Byte) (payload : List Byte) (check : Byte)
  /-- CHIP_SELECT_FALL (R158). -/
  | chipSelectFall (t : Time) (p : Port)
  /-- CHIP_SELECT_RISE (R161). -/
  | chipSelectRise (t : Time) (p : Port)
  /-- RSTN_LOW (R156). -/
  | rstnLow (t : Time)
  /-- RSTN_RISE (R156). -/
  | rstnRise (t : Time)
  /-- LINE_GRANT (R73): the arbiter of line `l` searches and grants. -/
  | lineGrant (t : Time) (l : LineIx)
  /-- FRAME_SENT (R74): the last byte of the attempt's frame has been sent on line `l`. -/
  | frameSent (t : Time) (l : LineIx)
  /-- IDENT (R51): drop byte, class and advertised window of the answer. -/
  | ident (t : Time) (l : LineIx) (drop cls window : Byte)
  /-- ACCEPT (R109): drop byte and seq byte of the answer. -/
  | accept (t : Time) (l : LineIx) (drop seq : Byte)
  /-- REFUSE (R110, R111): drop byte, seq byte and reason byte of the answer. -/
  | refuse (t : Time) (l : LineIx) (drop seq reason : Byte)
  /-- SEGMENT (R112): drop, seq and flags bytes, the offset and the data bytes of the answer. -/
  | segment (t : Time) (l : LineIx) (drop seq flags : Byte) (offset : Word) (data : List Byte)
  /-- PENDING (R122): drop byte and the seq bytes listed by the answer. -/
  | pending (t : Time) (l : LineIx) (drop : Byte) (seqs : List Byte)
  /-- FAULT (R117): drop, seq and code bytes of the answer. -/
  | fault (t : Time) (l : LineIx) (drop seq code : Byte)
  /-- RESPONSE_WINDOW_EXPIRY (R76). -/
  | responseWindowExpiry (t : Time) (l : LineIx)
  /-- BROKEN_ANSWER (R74). -/
  | brokenAnswer (t : Time) (l : LineIx)
  /-- DEADLINE_EXPIRY (R102) of the entry at index `i`. -/
  | deadlineExpiry (t : Time) (i : EntryIx)
  /-- HOLD_EXPIRY (R137) of the entry at index `i`. -/
  | holdExpiry (t : Time) (i : EntryIx)
  /-- PROBE_TIME (R83) of node `n`. -/
  | probeTime (t : Time) (n : NodeIx)
  /-- FIRST_POLL_TIME (R99) of the entry at index `i`. -/
  | firstPollTime (t : Time) (i : EntryIx)
  /-- SUSPECT_CHECK_TIME (R52) of node `n`. -/
  | suspectCheckTime (t : Time) (n : NodeIx)
  /-- EARLIEST_POLL_TIME_END (R86) of node `n`. -/
  | earliestPollTimeEnd (t : Time) (n : NodeIx)
  /-- REFUSE_BACK_OFF_END (R86) of node `n`. -/
  | refuseBackOffEnd (t : Time) (n : NodeIx)
  /-- INVALID_ANSWER (R76): bytes received on line `l` up to the time `t`, first byte first, each at its own time. -/
  | invalidAnswer (t : Time) (l : LineIx) (bytes : List HeardByte)
  /-- BYTE_CLOCKED (R158): a byte clocked in full on port `p`. -/
  | byteClocked (t : Time) (p : Port) (byte : Byte)
  deriving DecidableEq, Repr

end Sys2Proof
end

