-- ==== Sys2Proof/Decode.lean ====
section
/-! DEFINITION. Decode.lean: the command that a word spells by the bits of spec/opcode_table.json. The table gives bits to
no row (its commands are frames, pin events and timer events, not words), so no word spells a command. The bytes of a host
frame are read by `Sys2Proof.Machine.parseCommand`, those of a node answer by `Sys2Proof.Machine.judgeReceived`. -/

namespace Sys2Proof

/-- No row of the table has bits: no word spells a command. -/
def decodeTableWord (_nbits _w : Nat) : Option Instr := none

end Sys2Proof
end

