-- ==== Sys2Proof/Machine/State.lean ====
section
/-! DEFINITION. Machine/State.lean: every piece of state the manual gives the NC16, as plain data, and its values after
reset. A field that is present only in some states (R2, R46, R71, R157) is an argument of the constructor of those states
or an `Option`. Counts that the manual derives from the table (occupancy, committed total, free pool, live seqs, in-use
count) are not stored: Machine/Table.lean and Machine/Buffer.lean compute them. -/

namespace Sys2Proof.Machine

/-- The nine events of a port's event set (R174). -/
inductive Event where
  | delayed
  | discarded
  | overrun
  | unexpected
  | late
  | nodeChange
  | nodeSlow
  | lineError
  | hostFrameError
  deriving DecidableEq, Repr

/-- The kind of a transaction (R2). -/
inductive Kind where
  | read
  | write
  deriving DecidableEq, Repr

/-- The completion status of a DONE entry; the node error code is present with NODE_ERROR only (R2, R16). -/
inductive Status where
  | ok
  | short
  | nodeError (code : Byte)
  | timeout
  | lost
  | nodeOffline
  | detached
  | cancelled
  deriving DecidableEq, Repr

/-- The flags of an entry (R17, R18). -/
structure EntryFlags where
  sent : Bool
  excess : Bool
  repeated : Bool
  deriving DecidableEq, Repr

/-- The state of an entry that is not FREE, with the fields that are present in that state only (R2). -/
inductive Phase where
  /-- a read waiting for buffer commitment -/
  | waiting
  /-- waiting for the line -/
  | ready
  /-- its REQUEST exchange is in flight -/
  | issuing (seq : Seq)
  /-- accepted by the node, no segment taken yet -/
  | issued (seq : Seq) (deadline firstPoll acceptTime : Time)
  /-- at least one segment taken, not finished -/
  | part (seq : Seq) (deadline : Time)
  /-- finished, waiting to be collected -/
  | done (status : Status) (holdExpiry : Option Time)
  deriving DecidableEq, Repr

/-- The record of an entry that is not FREE (R2). `stamp` is the model's own: it orders the entries by when they last
became ISSUING, which R14, R55, R57 and R122 use (log entry 4). -/
structure Entry where
  port : Port
  tag : Tag
  node : NodeIx
  kind : Kind
  addr : Word
  length : Nat
  payload : List Byte
  committed : Nat
  blocks : List BlockIx
  received : Nat
  retries : Nat
  flags : EntryFlags
  stamp : Nat
  phase : Phase
  deriving DecidableEq, Repr

/-- The latency mode of a node (R97, R98). -/
inductive Mode where
  | adaptive
  | fixed
  deriving DecidableEq, Repr

/-- The per-node parameters (R180). -/
structure NodeParams where
  window : Nat
  mode : Mode
  fixedDeadline : Nat
  eSeed : Nat
  sSeed : Nat
  slowCeiling : Nat
  retryLimit : Nat
  silenceThreshold : Nat
  timeoutThreshold : Nat
  deriving DecidableEq, Repr

/-- The counters of a node record (R66). -/
structure NodeCounters where
  timeouts : Nat
  late : Nat
  unexpected : Nat
  probes : Nat
  deriving DecidableEq, Repr

/-- The state of a bound node, with the time that is present in that state only (R46); a PROBING node has no probe time
while its RESET exchange is in flight (R50). -/
inductive Health where
  | probing (probeTime : Option Time)
  | online
  | suspect (checkTime : Time)
  | offline
  deriving DecidableEq, Repr

/-- The disposition of an acknowledgement (R63). -/
inductive Disposition where
  | accepted
  | hold
  | discard
  deriving DecidableEq, Repr

/-- An acknowledgement owed to a node (R63). -/
structure Ack where
  seq : Seq
  nextOffset : Nat
  disposition : Disposition
  deriving DecidableEq, Repr

/-- What a node advertised in its IDENT (R51). -/
structure Advert where
  window : Nat
  cls : Byte
  deriving DecidableEq, Repr

/-- The fields of a node record that are present in every state but ABSENT (R46). The abandoned set is kept in increasing
order, so that equal sets are equal data. -/
structure BoundNode where
  line : LineIx
  drop : DropIx
  health : Health
  advert : Option Advert
  issueQueue : List EntryIx
  nextSeq : Seq
  issuingSeq : Option Seq
  abandoned : List Seq
  pendingAck : Option Ack
  e : Nat
  s : Nat
  silence : Nat
  timeouts : Nat
  earliestPoll : Option Time
  refuseEnd : Option Time
  lastGood : Option Time
  deriving DecidableEq, Repr

/-- A node record; `bound` is absent in state ABSENT (R46). -/
structure NodeRec where
  params : NodeParams
  slow : Bool
  counters : NodeCounters
  bound : Option BoundNode
  deriving DecidableEq, Repr

/-- The frame kinds of an exchange; a REQUEST has its seq (R71). -/
inductive FrameKind where
  | reset
  | request (seq : Seq)
  | poll
  deriving DecidableEq, Repr

/-- Where an attempt stands (R74). The bytes of an answer that has begun are the model's own (log entry 14). -/
inductive AttemptPhase where
  /-- its frame is being sent -/
  | sending
  /-- its response window opened, and no byte has been received since -/
  | awaiting (opened : Time)
  /-- an answer has begun and has not ended: the bytes received so far, and when the last of them was -/
  | receiving (bytes : List LineByte) (last : Time)
  deriving DecidableEq, Repr

/-- The current exchange of a line (R71). `frame` holds the bytes every attempt sends (R73); `window` is the response
window in microseconds as it stood when the attempt began (R74); `uncounted` marks an exchange abandoned by DEVICE_RESET,
whose end is counted nowhere (R79). -/
structure Exchange where
  node : NodeIx
  drop : DropIx
  kind : FrameKind
  ack : Option Ack
  attempt : Nat
  abandoned : Bool
  uncounted : Bool
  frame : List Byte
  window : Nat
  phase : AttemptPhase
  deriving DecidableEq, Repr

/-- The state of a line, with the fields present in EXCHANGING only (R71). -/
inductive LineState where
  | disabled
  | idle
  | exchanging (disablePending : Bool) (x : Exchange)
  deriving DecidableEq, Repr

/-- The counters of a line (R71, R80). -/
structure LineCounters where
  exchanges : Nat
  noAnswer : Nat
  frameCheck : Nat
  mismatch : Nat
  failed : Nat
  deriving DecidableEq, Repr

/-- A line record (R71). -/
structure LineRec where
  state : LineState
  lastGranted : DropIx
  counters : LineCounters
  deriving DecidableEq, Repr

/-- The receiver state of a port, with the fields that are present in it (R157, R158): the bytes of the frame so far, the
turnaround bytes already clocked, the response frame and the count of its bytes already shifted out. -/
inductive Receiver where
  | idle
  | command (bytes : List Byte)
  | turnaround (clocked : Nat) (response : List Byte)
  | response (response : List Byte) (shifted : Nat)
  | trailing
  | ignoring
  deriving DecidableEq, Repr

/-- The collect marker of a completion unit (R127). -/
structure CollectMarker where
  entry : EntryIx
  deferred : Bool
  deriving DecidableEq, Repr

/-- The per-port parameters (R179); `enables` holds the events whose enable is set, in event-word order. -/
structure PortParams where
  holdTime : Nat
  queueAttention : Bool
  enables : List Event
  deriving DecidableEq, Repr

/-- The counters of a port record (R157). -/
structure PortCounters where
  answered : Nat
  errors : Nat
  cut : Nat
  deriving DecidableEq, Repr

/-- One host port: its chip-select input (low or high), its port record (R157), its completion unit (R127) and its
parameters (R179). Event sets are kept in event-word order, so that equal sets are equal data. -/
structure PortRec where
  csLow : Bool
  receiver : Receiver
  events : List Event
  readMarker : Option (List Event)
  counters : PortCounters
  completion : List EntryIx
  collect : Option CollectMarker
  discards : Nat
  params : PortParams
  deriving DecidableEq, Repr

/-- The global parameters (R178); the response window is in microseconds, the intervals in milliseconds, the rest in
ticks, blocks and entries. -/
structure GlobalParams where
  limit : Nat
  responseWindow : Nat
  dmin : Nat
  dmax : Nat
  guard : Nat
  probeInterval : Nat
  suspectInterval : Nat
  lineEnable : Vector Bool 4
  ceilingA : Nat
  ceilingB : Nat
  deriving DecidableEq, Repr

/-- The whole NC16. `now` and `stamp` are the model's own (log entries 2 and 4); `rstnLow` is the level of the RSTN input;
`buffer` is the data of the read buffer, byte `16 * block + offset` at that address (R37); `pending` is the queue of
commands that wait, first in, first out. -/
structure State where
  now : Time
  rstnLow : Bool
  table : Vector (Option Entry) 48
  admission : List EntryIx
  nodes : Vector NodeRec 16
  lines : Vector LineRec 4
  portA : PortRec
  portB : PortRec
  params : GlobalParams
  buffer : List Host.Cell
  stamp : Nat
  pending : List Instr
  deriving DecidableEq, Repr

/-- The reasons a step can stop with a fault. There is none: the manual gives every command an effect in every state, and
no event it describes stops the part (log entry 3). -/
inductive Fault where
  deriving DecidableEq, Repr

/-- The reasons a step can be refused. -/
inductive Refusal where
  /-- Raised by an arm of `exec` whose command has no meaning yet; safe. No arm does: every command has its meaning. -/
  | notModelled (mnemonic : String)
  deriving DecidableEq, Repr

/-- The power-on values of the per-node parameters (R180). -/
def NodeParams.powerOn : NodeParams where
  window := 4
  mode := .adaptive
  fixedDeadline := 500
  eSeed := 100
  sSeed := 25
  slowCeiling := 2000
  retryLimit := 1
  silenceThreshold := 3
  timeoutThreshold := 3

/-- All four counters of a node at 0 (R66). -/
def NodeCounters.zero : NodeCounters := ⟨0, 0, 0, 0⟩

/-- A node record after RSTN: ABSENT, counters 0, slow marker clear, power-on parameters (R46, R96). -/
def NodeRec.powerOn : NodeRec where
  params := .powerOn
  slow := false
  counters := .zero
  bound := none

/-- All five counters of a line at 0 (R80). -/
def LineCounters.zero : LineCounters := ⟨0, 0, 0, 0, 0⟩

/-- A line record after RSTN: enabled and IDLE, no exchange, last granted drop 3, counters 0 (R71). -/
def LineRec.powerOn : LineRec where
  state := .idle
  lastGranted := 3
  counters := .zero

/-- The three counters of a port at 0 (R157). -/
def PortCounters.zero : PortCounters := ⟨0, 0, 0⟩

/-- The power-on values of the per-port parameters (R179). -/
def PortParams.powerOn : PortParams where
  holdTime := 20
  queueAttention := true
  enables := []

/-- A port after RSTN with chip select high (R157, R127). -/
def PortRec.powerOn : PortRec where
  csLow := false
  receiver := .idle
  events := []
  readMarker := none
  counters := .zero
  completion := []
  collect := none
  discards := 0
  params := .powerOn

/-- The power-on values of the global parameters (R178). -/
def GlobalParams.powerOn : GlobalParams where
  limit := 96
  responseWindow := 200
  dmin := 20
  dmax := 4095
  guard := 20
  probeInterval := 10
  suspectInterval := 5
  lineEnable := Vector.replicate 4 true
  ceilingA := 24
  ceilingB := 24

/-- The part right after reset: RSTN has risen with both chip selects high, and every block holds its power-on values
(R156). -/
def State.reset : State where
  now := 0
  rstnLow := false
  table := Vector.replicate 48 none
  admission := []
  nodes := Vector.replicate 16 .powerOn
  lines := Vector.replicate 4 .powerOn
  portA := .powerOn
  portB := .powerOn
  params := .powerOn
  buffer := []
  stamp := 0
  pending := []

end Sys2Proof.Machine
end

