-- ==== Sys2Proof/Machine/Ops.lean ====
section
/-! DEFINITION. Machine/Ops.lean: the named reads and updates of the state, through which every command acts. -/

namespace Sys2Proof.Machine

/-- The entry at index `i`; `none` when it is FREE (R1). -/
def State.entry (s : State) (i : EntryIx) : Option Entry := s.table[i]

/-- `s` with the entry at index `i` replaced. -/
def State.setEntry (s : State) (i : EntryIx) (o : Option Entry) : State := { s with table := s.table.set i o }

/-- `s` with the entry at index `i` changed by `f`, when it is not FREE. -/
def State.modEntry (s : State) (i : EntryIx) (f : Entry → Entry) : State := s.setEntry i ((s.entry i).map f)

/-- The record of node `n` (R46). -/
def State.node (s : State) (n : NodeIx) : NodeRec := s.nodes[n]

/-- `s` with the record of node `n` replaced. -/
def State.setNode (s : State) (n : NodeIx) (r : NodeRec) : State := { s with nodes := s.nodes.set n r }

/-- `s` with the record of node `n` changed by `f`. -/
def State.modNode (s : State) (n : NodeIx) (f : NodeRec → NodeRec) : State := s.setNode n (f (s.node n))

/-- The bound fields of node `n`; `none` when it is ABSENT (R46). -/
def State.bound (s : State) (n : NodeIx) : Option BoundNode := (s.node n).bound

/-- `s` with the bound fields of node `n` changed by `f`, when it is not ABSENT. -/
def State.modBound (s : State) (n : NodeIx) (f : BoundNode → BoundNode) : State :=
  s.modNode n fun r => { r with bound := r.bound.map f }

/-- The record of line `l` (R71). -/
def State.line (s : State) (l : LineIx) : LineRec := s.lines[l]

/-- `s` with the record of line `l` replaced. -/
def State.setLine (s : State) (l : LineIx) (r : LineRec) : State := { s with lines := s.lines.set l r }

/-- `s` with the record of line `l` changed by `f`. -/
def State.modLine (s : State) (l : LineIx) (f : LineRec → LineRec) : State := s.setLine l (f (s.line l))

/-- The host port `p` (R157). -/
def State.port (s : State) : Port → PortRec
  | .a => s.portA
  | .b => s.portB

/-- `s` with the host port `p` replaced. -/
def State.setPort (s : State) (p : Port) (r : PortRec) : State :=
  match p with
  | .a => { s with portA := r }
  | .b => { s with portB := r }

/-- `s` with the host port `p` changed by `f`. -/
def State.modPort (s : State) (p : Port) (f : PortRec → PortRec) : State := s.setPort p (f (s.port p))

/-- `s` at the time of an event: now is `t`, and never earlier than it was (00_scope.md, Time; log entry 2). -/
def State.advance (s : State) (t : Time) : State := { s with now := max s.now t }

/-- The enable of line `l` (R71, R178). -/
def State.lineEnabled (s : State) (l : LineIx) : Bool := s.params.lineEnable[l]

/-- The ceiling of port `p` (R44). -/
def State.ceiling (s : State) : Port → Nat
  | .a => s.params.ceilingA
  | .b => s.params.ceilingB

/-- A counter one higher: 16 bits wide and saturating, it stops at 65535 (00_scope.md, Counters). -/
def bump (c : Nat) : Nat := if c < 65535 then c + 1 else 65535

/-- A silence or timeout count one higher, held in the range 0 to 15 (R64, R65). -/
def bumpCount (c : Nat) : Nat := if c < 15 then c + 1 else 15

/-- A value between two bounds: the lower when it is below it, the upper when it is above it (00_scope.md, Arithmetic). -/
def clamp (lo hi v : Nat) : Nat := if v < lo then lo else if hi < v then hi else v

/-- A length in ticks as microseconds. -/
def ticks (n : Nat) : Time := n * usPerTick

/-- A length in milliseconds as microseconds. -/
def millis (n : Nat) : Time := n * usPerMs

/-- The whole ticks between two times, rounded down (R92). -/
def ticksSince (start now : Time) : Nat := (now - start) / usPerTick

/-- The ticks remaining until a time, rounded up, and 0 once it is reached (R169). -/
def ticksUntil (now due : Time) : Nat := (due - now + (usPerTick - 1)) / usPerTick

/-- The end of a back-off while it is running: a field whose time now has reached is no longer present (R86). -/
def running (now : Time) (field : Option Time) : Option Time := field.filter fun end_ => now < end_

/-- A set of sequence numbers with `q` added, in increasing order and without repeats (R62). -/
def withSeq (q : Seq) (set : List Seq) : List Seq := allSeqs.filter fun x => x == q || set.contains x

/-- A set of sequence numbers without `q`, in the order it stood. -/
def withoutSeq (q : Seq) (set : List Seq) : List Seq := set.filter fun x => x != q

/-- A queue without the entry `i`: the entries behind it close up with their order kept (R32, R48, R128). -/
def removed (i : EntryIx) (queue : List EntryIx) : List EntryIx := queue.filter fun j => j != i

/-- The position of `i` in a queue, counted from 0 at the head (R167). -/
def position (i : EntryIx) (queue : List EntryIx) : Nat := queue.findIdx fun j => j == i

end Sys2Proof.Machine
end

