-- ==== Sys2Proof/Machine/Buffer.lean ====
section
/-! DEFINITION. Machine/Buffer.lean: the read buffer: its bytes as a list of cells in one canonical form, the free pool, and
the placing and taking of a read's bytes through its block list (Chapter 2, sections 2.5 and 2.6). -/

namespace Sys2Proof.Machine

/-! ## The bytes of the buffer -/

/-- The byte at an address of the buffer. -/
def bufferRead : List Host.Cell → Nat → Byte
  | [], _ => blankByte
  | (b, v) :: rest, a => if a = b then v else if a < b then blankByte else bufferRead rest a

/-- A cell in front of a buffer, left out when it holds what an unlisted address reads as. -/
def bufferCons (a : Nat) (v : Byte) (rest : List Host.Cell) : List Host.Cell :=
  if v = blankByte then rest else (a, v) :: rest

/-- The buffer with the byte at an address written; the canonical form is kept. -/
def bufferWrite : List Host.Cell → Nat → Byte → List Host.Cell
  | [], a, v => bufferCons a v []
  | (b, w) :: rest, a, v =>
    if a = b then bufferCons a v rest
    else if a < b then bufferCons a v ((b, w) :: rest)
    else (b, w) :: bufferWrite rest a v

/-- The canonical form: addresses strictly rising, from `low` on, and no cell equal to what an unlisted address reads as. -/
def bufferWfFrom : Nat → List Host.Cell → Bool
  | _, [] => true
  | low, (a, v) :: rest => low ≤ a && v != blankByte && bufferWfFrom (a + 1) rest

/-- The buffer's canonical form, so that equal buffers are equal data. -/
def bufferWf (m : List Host.Cell) : Bool := bufferWfFrom 0 m

/-- The address of the byte at offset `pos` of a read whose block list is `blocks`: the first block holds bytes 0 to 15,
the second bytes 16 to 31, and so on (R2, R37). -/
def blockAddress (blocks : List BlockIx) (pos : Nat) : Nat :=
  (blocks.getD (pos / blockBytes) 0).val * blockBytes + pos % blockBytes

/-- The buffer with the bytes of a read placed from offset `pos` on (R38). -/
def storeBytes (blocks : List BlockIx) : Nat → List Byte → List Host.Cell → List Host.Cell
  | _, [], m => m
  | pos, b :: rest, m => storeBytes blocks (pos + 1) rest (bufferWrite m (blockAddress blocks pos) b)

/-- The first `n` bytes of a read, taken from its block list in list order (R130). -/
def loadBytes (blocks : List BlockIx) (n : Nat) (m : List Host.Cell) : List Byte :=
  (List.range n).map fun pos => bufferRead m (blockAddress blocks pos)

/-! ## Need, the block lists and the free pool -/

/-- The blocks that hold `n` bytes: `n` divided by 16, rounded up (R25). -/
def blocksFor (n : Nat) : Nat := (n + 15) / 16

/-- The need of an entry: the blocks of its length for a READ, 0 for a WRITE (R25). -/
def Entry.need (e : Entry) : Nat :=
  match e.kind with
  | .read => blocksFor e.length
  | .write => 0

/-- The entries that are not FREE, in index order. -/
def State.used (s : State) : List Entry := allEntries.filterMap fun i => s.entry i

/-- The blocks held in block lists (R37). -/
def State.occupied (s : State) : List BlockIx := s.used.flatMap fun e => e.blocks

/-- The blocks in the free pool, which has no order; the model takes the lowest-numbered first (R37; log entry 5). -/
def State.freeBlocks (s : State) : List BlockIx := allBlocks.filter fun b => !s.occupied.contains b

/-- The committed total: the sum of committed over all non-FREE entries (R26). -/
def State.committedTotal (s : State) : Nat := (s.used.map fun e => e.committed).sum

end Sys2Proof.Machine
end

