-- ==== Sys2Proof/Machine/Flags.lean ====
section
/-! DEFINITION. Machine/Flags.lean: the flag-like state: the event sets of the ports with their read markers, the attention
outputs, and the other output pins, which follow the state without latching. -/

namespace Sys2Proof.Machine

/-- The nine events in event-word order, DELAYED at bit 0 (section 11.2, event word). -/
def allEvents : List Event :=
  [.delayed, .discarded, .overrun, .unexpected, .late, .nodeChange, .nodeSlow, .lineError, .hostFrameError]

/-- An event set with `ev` in it, at most once (R174). -/
def withEvent (ev : Event) (set : List Event) : List Event := allEvents.filter fun x => x == ev || set.contains x

/-- An event set without `ev`. -/
def withoutEvent (ev : Event) (set : List Event) : List Event := set.filter fun x => x != ev

/-- A port with `ev` raised: the event joins the set, and leaves the read marker when the marker holds it (R174, R176). -/
def PortRec.raise (ev : Event) (r : PortRec) : PortRec :=
  { r with events := withEvent ev r.events, readMarker := r.readMarker.map (withoutEvent ev) }

/-- An event raised on port `p` (R175). -/
def raiseOn (p : Port) (ev : Event) (s : State) : State := s.modPort p (PortRec.raise ev)

/-- An event raised on both ports: two raises (R175). -/
def raiseBoth (ev : Event) (s : State) : State := raiseOn .b ev (raiseOn .a ev s)

/-- Whether port `p` asserts attention: its completion queue is nonempty and its queue attention enable is set, or its
event set contains an event whose enable is set (R140); both outputs are deasserted while RSTN is low (R156). -/
def attention (s : State) (p : Port) : Bool :=
  let r := s.port p
  !s.rstnLow &&
    ((!r.completion.isEmpty && r.params.queueAttention) || r.events.any fun ev => r.params.enables.contains ev)

/-- The level of the attention output of port `p`, true for high: low exactly when asserted (R140, R189). -/
def atnHigh (s : State) (p : Port) : Bool := !attention s p

/-- The byte that port `p` shifts out while the next byte is clocked, or `none` while its data output is high-impedance:
00h in COMMAND, TURNAROUND, TRAILING and IGNORING, the bytes of the response in RESPONSE; high-impedance while chip
select is high or RSTN is low (R158, R189). -/
def dataOut (s : State) (p : Port) : Option Byte :=
  let r := s.port p
  if s.rstnLow || !r.csLow then none
  else
    match r.receiver with
    | .response bytes shifted => some (bytes.getD shifted 0)
    | .idle | .command _ | .turnaround .. | .trailing | .ignoring => some 0

/-- The level of the direction output of line `l`, true for high: high while the part sends a frame (R189). -/
def directionHigh (s : State) (l : LineIx) : Bool :=
  match (s.line l).state with
  | .exchanging _ x => x.phase == .sending
  | .disabled | .idle => false

/-- The bytes of the frame that an attempt on line `l` is sending, when one is (R73, R76). -/
def frameOut (s : State) (l : LineIx) : Option (List Byte) :=
  match (s.line l).state with
  | .exchanging _ x => if x.phase == .sending then some x.frame else none
  | .disabled | .idle => none

end Sys2Proof.Machine
end

