-- ==== Sys2Proof/Machine/Table.lean ====
section
/-! DEFINITION. Machine/Table.lean: the transaction table's own moves: finding entries, the queues they stand in, the move
to DONE (R15), the return to READY (R13) and freeing (R20). -/

namespace Sys2Proof.Machine

/-! ## Finding entries -/

/-- An entry that counts as open: every state but FREE and DONE (R4). -/
def Phase.isOpen : Phase → Bool
  | .done .. => false
  | .waiting | .ready | .issuing _ | .issued .. | .part .. => true

/-- The seq of an ISSUED or PARTIAL entry, which is live at its node (R46). -/
def Phase.liveSeq : Phase → Option Seq
  | .issued seq _ _ _ => some seq
  | .part seq _ => some seq
  | .waiting | .ready | .issuing _ | .done .. => none

/-- The seq of an ISSUING entry. -/
def Phase.issuingSeq : Phase → Option Seq
  | .issuing seq => some seq
  | .waiting | .ready | .issued .. | .part .. | .done .. => none

/-- Whether the entry at `i` is not FREE and satisfies `f`. -/
def State.holds (s : State) (i : EntryIx) (f : Entry → Bool) : Bool := (s.entry i).any f

/-- The indexes of the entries that satisfy `f`, in index order. -/
def State.entriesWhere (s : State) (f : Entry → Bool) : List EntryIx := allEntries.filter fun i => s.holds i f

/-- The entry that a port names by a tag: the non-FREE entry of that port with that tag (R3). -/
def State.tagged (s : State) (p : Port) (tag : Tag) : Option EntryIx :=
  allEntries.find? fun i => s.holds i fun e => e.port == p && e.tag == tag

/-- The lowest-numbered FREE entry (R5). -/
def State.firstFree (s : State) : Option EntryIx := allEntries.find? fun i => (s.entry i).isNone

/-- A port's occupancy: its non-FREE entries, DONE ones included (R4). -/
def State.occupancy (s : State) (p : Port) : Nat := (s.entriesWhere fun e => e.port == p).length

/-- The ISSUED and PARTIAL entries of a node. -/
def State.liveEntries (s : State) (n : NodeIx) : List EntryIx :=
  s.entriesWhere fun e => e.node == n && e.phase.liveSeq.isSome

/-- The live seqs of a node, read from the table (R46). -/
def State.liveSeqs (s : State) (n : NodeIx) : List Seq :=
  (s.liveEntries n).filterMap fun i => (s.entry i).bind fun e => e.phase.liveSeq

/-- The live entry of a node under a seq (R108). -/
def State.liveAt (s : State) (n : NodeIx) (seq : Seq) : Option EntryIx :=
  allEntries.find? fun i => s.holds i fun e => e.node == n && e.phase.liveSeq == some seq

/-- The entry of a node that is still ISSUING with a seq (R109). -/
def State.issuingAt (s : State) (n : NodeIx) (seq : Seq) : Option EntryIx :=
  allEntries.find? fun i => s.holds i fun e => e.node == n && e.phase.issuingSeq == some seq

/-- The stamp of the entry at `i`: when it last became ISSUING. -/
def State.stampAt (s : State) (i : EntryIx) : Nat :=
  match s.entry i with
  | some e => e.stamp
  | none => 0

/-- Entries in the order in which they last became ISSUING (R14). -/
def State.byStamp (s : State) (is : List EntryIx) : List EntryIx :=
  is.insertionSort fun i j => s.stampAt i ≤ s.stampAt j

/-! ## Queues -/

/-- The issue queue of node `n` changed by `f` (R48). -/
def State.modIssueQueue (s : State) (n : NodeIx) (f : List EntryIx → List EntryIx) : State :=
  s.modBound n fun b => { b with issueQueue := f b.issueQueue }

/-- The entry at `i` taken out of the queue that its phase holds it in (R7). -/
def leaveQueue (i : EntryIx) (e : Entry) (s : State) : State :=
  match e.phase with
  | .waiting => { s with admission := removed i s.admission }
  | .ready => s.modIssueQueue e.node (removed i)
  | .done .. => s.modPort e.port fun r => { r with completion := removed i r.completion }
  | .issuing _ | .issued .. | .part .. => s

/-- Entries placed at the head of a node's issue queue, ahead of those already there (R13, R14). -/
def queueFirst (n : NodeIx) (is : List EntryIx) (s : State) : State := s.modIssueQueue n fun q => is ++ q

/-- An entry placed at the tail of a node's issue queue (R8, R9). -/
def queueLast (n : NodeIx) (i : EntryIx) (s : State) : State := s.modIssueQueue n fun q => q ++ [i]

/-! ## The move to DONE -/

/-- Whether a status delivers data of a READ (R15, R129). -/
def Status.delivers : Status → Bool
  | .ok | .short => true
  | .nodeError _ | .timeout | .lost | .nodeOffline | .detached | .cancelled => false

/-- The record of an entry at its move to DONE: with OK or SHORT the blocks and received are kept and committed is trimmed
to the blocks held; with every other status blocks, received and committed are given up (R15). -/
def Entry.finished (status : Status) (expiry : Option Time) (e : Entry) : Entry :=
  if status.delivers then { e with committed := e.blocks.length, phase := .done status expiry }
  else { e with committed := 0, blocks := [], received := 0, phase := .done status expiry }

/-- The hold expiry of an entry of port `p` that becomes DONE now: absent when the port's hold time is 0 (R136). -/
def holdEnd (s : State) (p : Port) : Option Time :=
  let hold := (s.port p).params.holdTime
  if hold = 0 then none else some (s.now + millis hold)

/-- The timeout count of a node cleared, which a move to DONE with OK or SHORT does (R65). -/
def clearTimeouts (n : NodeIx) (s : State) : State := s.modBound n fun b => { b with timeouts := 0 }

/-- The move of the entry at `i` to DONE with a status: it leaves the queue of its former state, joins the tail of its
port's completion queue, and its hold expiry is set (R15). A FREE or DONE entry is not touched (R21, R24). -/
def finish (status : Status) (i : EntryIx) (s : State) : State :=
  match s.entry i with
  | none => s
  | some e =>
    if e.phase.isOpen then
      let moved := (leaveQueue i e s).setEntry i (some (e.finished status (holdEnd s e.port)))
      let queued := moved.modPort e.port fun r => { r with completion := r.completion ++ [i] }
      if status.delivers then clearTimeouts e.node queued else queued
    else s

/-- Several entries moved to DONE in the order given (R55, R122). -/
def finishAll (status : Status) (is : List EntryIx) (s : State) : State := is.foldl (fun s i => finish status i s) s

/-! ## The return to READY -/

/-- The record of an entry that returns to READY: received 0, no blocks, EXCESS clear, SENT and the commitment kept, and
retries one higher when the return is charged (R13). -/
def Entry.returned (charged : Bool) (e : Entry) : Entry :=
  { e with
    received := 0
    blocks := []
    retries := if charged then e.retries + 1 else e.retries
    flags := { e.flags with excess := false }
    phase := .ready }

/-- Entries of one node returned to READY by one event, at the head of its issue queue in the order in which they last
became ISSUING (R13, R14). -/
def returnToReady (charged : Bool) (n : NodeIx) (is : List EntryIx) (s : State) : State :=
  queueFirst n (s.byStamp is) (is.foldl (fun s i => s.modEntry i (Entry.returned charged)) s)

/-! ## Freeing -/

/-- The entry at `i` made FREE: it leaves its queue, and its blocks, its commitment and its tag go with its record
(R20, R148). -/
def freeEntry (i : EntryIx) (s : State) : State :=
  match s.entry i with
  | none => s
  | some e => (leaveQueue i e s).setEntry i none

/-- A seq put into a node's abandoned set (R62). -/
def abandonSeq (n : NodeIx) (seq : Seq) (s : State) : State :=
  s.modBound n fun b => { b with abandoned := withSeq seq b.abandoned }

/-- The seq of a live entry put into its node's abandoned set; no effect for an entry without a live seq. -/
def abandonLive (e : Entry) (s : State) : State :=
  match e.phase.liveSeq with
  | some seq => abandonSeq e.node seq s
  | none => s

end Sys2Proof.Machine
end

