-- ==== Sys2Proof/Machine/Admission.lean ====
section
/-! DEFINITION. Machine/Admission.lean: admission: the grant of commitment and the test of the admission queue's head
(Chapter 2, sections 2.2 and 2.3). -/

namespace Sys2Proof.Machine

/-- The grant of the WAITING entry at the head of the admission queue: it leaves the queue, its committed becomes its need,
and it becomes READY at the tail of its node's issue queue (R9, R31). -/
def grantHead (i : EntryIx) (e : Entry) (s : State) : State :=
  queueLast e.node i
    ({ s with admission := removed i s.admission }.setEntry i (some { e with committed := e.need, phase := .ready }))

/-- Whether the committed total plus a need is within the commitment limit (R28, R31). -/
def fits (s : State) (need : Nat) : Bool := s.committedTotal + need ≤ s.params.limit

/-- The test of the head, and of each new head, until one fails or the queue is empty; `fuel` bounds the grants (R31). -/
def testHeads : Nat → State → State
  | 0, s => s
  | fuel + 1, s =>
    match s.admission with
    | [] => s
    | i :: _ =>
      match s.entry i with
      | none => s
      | some e => if e.phase = .waiting ∧ fits s e.need then testHeads fuel (grantHead i e s) else s

/-- Whether an event that took the part from `before` to `after` calls for a test of the head: the committed total fell, the
commitment limit was raised, or another entry became the head (R31). -/
def callsForTest (before after : State) : Bool :=
  after.committedTotal < before.committedTotal || before.params.limit < after.params.limit ||
    after.admission.head? != before.admission.head?

/-- The state after an event, with the head of the admission queue tested once, after all the event's moves, when the event
calls for it (R31, R32, R33). -/
def retest (before after : State) : State :=
  if callsForTest before after then testHeads after.admission.length after else after

end Sys2Proof.Machine
end

