-- ==== Sys2Proof/Machine/Operands.lean ====
section
/-! DEFINITION. Machine/Operands.lean: how the part reads what it is sent: the check byte, the payload of a host command
frame and the fields of a node answer (Chapter 11, R75, R188). -/

namespace Sys2Proof.Machine

/-! ## Byte order and the check byte -/

/-- A number as one byte of a frame. -/
def byteOf (n : Nat) : Byte := BitVec.ofNat 8 n

/-- A number as two bytes, most significant first (section 11). -/
def wordBytes (n : Nat) : List Byte := [byteOf (n / 256), byteOf n]

/-- The word of two bytes, most significant first (section 11). -/
def wordOf (hi lo : Byte) : Word := BitVec.ofNat 16 (hi.toNat * 256 + lo.toNat)

/-- A marker as a byte: 01h set, 00h clear (section 11.2). -/
def flagByte (b : Bool) : Byte := if b then 1 else 0

/-- One step of the check register: shifted left, and XORed with 1Dh when bit 7 was set (R187). -/
def crcShift (r : Byte) : Byte := if r.msb then (r <<< 1) ^^^ 0x1D else r <<< 1

/-- One covered byte taken into the check register: XORed in, then eight steps (R187). -/
def crcByte (r b : Byte) : Byte := Nat.iterate crcShift 8 (r ^^^ b)

/-- The check byte over the covered bytes, from a register of FFh (R187). -/
def crc8 (bytes : List Byte) : Byte := bytes.foldl crcByte 0xFF

/-- A frame closed by its check byte (R187). -/
def closed (bytes : List Byte) : List Byte := bytes ++ [crc8 bytes]

/-! ## Host command frames -/

/-- A host command with its operands as the payload gives them (section 11.2). `clear` is bit 0 of the flags byte, which
the three status commands read (R163). -/
inductive HostCommand where
  | submitRead (tag node : Byte) (addr len : Word)
  | submitWrite (tag node : Byte) (addr : Word) (payload : List Byte)
  | cancel (tag : Byte)
  | query (tag : Byte)
  | collect
  | portStatus (clear : Bool)
  | readEvents
  | portReset
  | nodeAttach (node line drop window mode : Byte)
  | nodeDetach (node : Byte)
  | nodeReprobe (node : Byte)
  | nodeStatus (node : Byte) (clear : Bool)
  | lineStatus (line : Byte) (clear : Bool)
  | setParam (number value : Word)
  | getParam (number : Word)
  | deviceReset
  | echo (payload : List Byte)
  deriving DecidableEq, Repr

/-- The command codes (section 11.2). -/
def HostCommand.code : HostCommand → Byte
  | .submitRead .. => 0x10
  | .submitWrite .. => 0x11
  | .cancel _ => 0x12
  | .query _ => 0x13
  | .collect => 0x20
  | .portStatus _ => 0x21
  | .readEvents => 0x22
  | .portReset => 0x23
  | .nodeAttach .. => 0x30
  | .nodeDetach _ => 0x31
  | .nodeReprobe _ => 0x32
  | .nodeStatus .. => 0x33
  | .lineStatus .. => 0x34
  | .setParam .. => 0x40
  | .getParam _ => 0x41
  | .deviceReset => 0x50
  | .echo _ => 0x60

/-- The command payloads, by byte offset (section 11.2). -/
def HostCommand.payload : HostCommand → List Byte
  | .submitRead tag node addr len => [tag, node] ++ wordBytes addr.toNat ++ wordBytes len.toNat
  | .submitWrite tag node addr data => [tag, node] ++ wordBytes addr.toNat ++ data
  | .cancel tag | .query tag => [tag]
  | .collect | .portStatus _ | .readEvents | .portReset | .deviceReset => []
  | .nodeAttach node line drop window mode => [node, line, drop, window, mode]
  | .nodeDetach node | .nodeReprobe node | .nodeStatus node _ => [node]
  | .lineStatus line _ => [line]
  | .setParam number value => wordBytes number.toNat ++ wordBytes value.toNat
  | .getParam number => wordBytes number.toNat
  | .echo data => data

/-- The clear flag: bit 0 of the flags byte; bits 7 to 1 are ignored (section 11.2, R188). -/
def clearFlag (flags : Byte) : Bool := flags.getLsbD 0

/-- The longest payload a command frame may declare (R158, R159). -/
def maxDeclared : Nat := 68

/-- The bytes of a command frame before its check byte: code, flags, declared length and payload; above a declared length
of 68 the receiver takes no payload (R158). -/
def frameBytes (code flags : Byte) (payload : List Byte) : List Byte :=
  let header := [code, flags] ++ wordBytes payload.length
  if maxDeclared < payload.length then header else header ++ payload

/-- The bytes of a command's frame before its check byte. -/
def HostCommand.bytes (flags : Byte) (c : HostCommand) : List Byte := frameBytes c.code flags c.payload

/-- What a frame with a good check byte asks for: a command, a code that names none, or a declared length the command does
not accept (R159). -/
inductive Asked where
  | command (c : HostCommand)
  | unknownCode
  | badLength
  deriving DecidableEq, Repr

/-- The command that a frame's code, flags and payload spell, with the payload length each command accepts (R159, section
9.2, section 11.2). -/
def parseCommand (code flags : Byte) (payload : List Byte) : Asked :=
  if code = 0x10 then
    match payload with
    | [tag, node, ah, al, lh, ll] => .command (.submitRead tag node (wordOf ah al) (wordOf lh ll))
    | _ => .badLength
  else if code = 0x11 then
    match payload with
    | tag :: node :: ah :: al :: data => .command (.submitWrite tag node (wordOf ah al) data)
    | _ => .badLength
  else if code = 0x12 then
    match payload with
    | [tag] => .command (.cancel tag)
    | _ => .badLength
  else if code = 0x13 then
    match payload with
    | [tag] => .command (.query tag)
    | _ => .badLength
  else if code = 0x20 then
    match payload with
    | [] => .command .collect
    | _ => .badLength
  else if code = 0x21 then
    match payload with
    | [] => .command (.portStatus (clearFlag flags))
    | _ => .badLength
  else if code = 0x22 then
    match payload with
    | [] => .command .readEvents
    | _ => .badLength
  else if code = 0x23 then
    match payload with
    | [] => .command .portReset
    | _ => .badLength
  else if code = 0x30 then
    match payload with
    | [node, line, drop, window, mode] => .command (.nodeAttach node line drop window mode)
    | _ => .badLength
  else if code = 0x31 then
    match payload with
    | [node] => .command (.nodeDetach node)
    | _ => .badLength
  else if code = 0x32 then
    match payload with
    | [node] => .command (.nodeReprobe node)
    | _ => .badLength
  else if code = 0x33 then
    match payload with
    | [node] => .command (.nodeStatus node (clearFlag flags))
    | _ => .badLength
  else if code = 0x34 then
    match payload with
    | [line] => .command (.lineStatus line (clearFlag flags))
    | _ => .badLength
  else if code = 0x40 then
    match payload with
    | [nh, nl, vh, vl] => .command (.setParam (wordOf nh nl) (wordOf vh vl))
    | _ => .badLength
  else if code = 0x41 then
    match payload with
    | [nh, nl] => .command (.getParam (wordOf nh nl))
    | _ => .badLength
  else if code = 0x50 then
    match payload with
    | [] => .command .deviceReset
    | _ => .badLength
  else if code = 0x60 then
    if payload.length ≤ 64 then .command (.echo payload) else .badLength
  else .unknownCode

/-- A node operand in range, 0 to 15 (R188). -/
def nodeOf (b : Byte) : Option NodeIx := if h : b.toNat < 16 then some ⟨b.toNat, h⟩ else none

/-- A line operand in range, 0 to 3 (R188). -/
def lineOf (b : Byte) : Option LineIx := if h : b.toNat < 4 then some ⟨b.toNat, h⟩ else none

/-- A drop operand in range, 0 to 3 (R188). -/
def dropOf (b : Byte) : Option DropIx := if h : b.toNat < 4 then some ⟨b.toNat, h⟩ else none

/-- A tag operand in range, 0 to 31 (R188). -/
def tagOf (b : Byte) : Option Tag := if h : b.toNat < 32 then some ⟨b.toNat, h⟩ else none

/-- A window operand in range, 1 to 8 (R49). -/
def windowOf (b : Byte) : Option Nat := if 1 ≤ b.toNat ∧ b.toNat ≤ 8 then some b.toNat else none

/-- A latency mode operand: 00h ADAPTIVE, 01h FIXED (section 11.2). -/
def modeOf (b : Byte) : Option Mode := if b = 0 then some .adaptive else if b = 1 then some .fixed else none

/-! ## Node answers -/

/-- The fields of a node answer, as its bytes give them (section 11.4). -/
inductive NodeAnswer where
  | ident (cls window : Byte)
  | accept (seq : Byte)
  | refuse (seq reason : Byte)
  | segment (seq flags : Byte) (offset : Word) (data : List Byte)
  | pending (seqs : List Byte)
  | fault (seq code : Byte)
  deriving DecidableEq, Repr

/-- The answer types (section 11.4). -/
def NodeAnswer.type : NodeAnswer → Byte
  | .ident .. => 0x81
  | .accept _ => 0x82
  | .refuse .. => 0x83
  | .segment .. => 0x84
  | .pending _ => 0x85
  | .fault .. => 0x86

/-- The answer bodies, by byte offset (section 11.4). -/
def NodeAnswer.body : NodeAnswer → List Byte
  | .ident cls window => [cls, window]
  | .accept seq => [seq]
  | .refuse seq reason => [seq, reason]
  | .segment seq flags offset data => [seq, flags] ++ wordBytes offset.toNat ++ data
  | .pending seqs => seqs
  | .fault seq code => [seq, code]

/-- The frame in which a node sends an answer: type, drop, body length, body and check byte (section 11.4). -/
def NodeAnswer.frame (drop : Byte) (a : NodeAnswer) : List Byte :=
  closed ([a.type, drop, byteOf a.body.length] ++ a.body)

/-- The longest body a valid answer has (section 11.4). -/
def maxAnswerBody : Nat := 36

/-- The most bytes of an answer the part takes (R74). -/
def maxAnswerBytes : Nat := 40

/-- The reasons a node gives in a REFUSE (R75). -/
inductive RefuseReason where
  | full
  | badAddress
  | badLength
  deriving DecidableEq, Repr

/-- A valid answer with its fields read: the seq of an ACCEPT or REFUSE is that of the exchange (R75). -/
inductive GoodAnswer where
  | ident (cls : Byte) (window : Nat)
  | accept (seq : Seq)
  | refuse (seq : Seq) (reason : RefuseReason)
  | segment (seq : Seq) (last : Bool) (offset : Nat) (data : List Byte)
  | pending (seqs : List Seq)
  | fault (seq : Seq) (code : Byte)
  deriving DecidableEq, Repr

/-- How an answer that has ended is judged: valid, or failing its attempt on the frame-check or the mismatch counter
(R75, R76). -/
inductive Verdict where
  | valid (g : GoodAnswer)
  | frameCheck
  | mismatch
  deriving DecidableEq, Repr

/-- A seq byte in range, 0 to 15 (R75). -/
def seqOf (b : Byte) : Option Seq := if h : b.toNat < 16 then some ⟨b.toNat, h⟩ else none

/-- A list of seq bytes, each in range (R75). -/
def seqsOf : List Byte → Option (List Seq)
  | [] => some []
  | b :: rest =>
    match seqOf b, seqsOf rest with
    | some q, some qs => some (q :: qs)
    | _, _ => none

/-- A REFUSE reason byte: 01h FULL, 02h BAD_ADDRESS, 03h BAD_LENGTH (section 11.4). -/
def reasonOf (b : Byte) : Option RefuseReason :=
  if b = 1 then some .full else if b = 2 then some .badAddress else if b = 3 then some .badLength else none

/-- The tests of validity for an answer with a good check byte, against the exchange it ends (R75): drop, type, seq of the
exchange and formats. -/
def judgeAnswer (x : Exchange) (drop : Byte) (a : NodeAnswer) : Verdict :=
  if dropOf drop ≠ some x.drop then .mismatch
  else
    match x.kind, a with
    | .reset, .ident cls window => .valid (.ident cls window.toNat)
    | .request q, .accept seq => if seqOf seq = some q then .valid (.accept q) else .mismatch
    | .request q, .refuse seq reason =>
      if seqOf seq = some q then
        match reasonOf reason with
        | some r => .valid (.refuse q r)
        | none => .mismatch
      else .mismatch
    | .poll, .segment seq flags offset data =>
      match seqOf seq with
      | some q => .valid (.segment q (flags.getLsbD 0) offset.toNat data)
      | none => .mismatch
    | .poll, .pending seqs =>
      match seqsOf seqs with
      | some qs => if seqs.length ≤ 16 ∧ qs.Nodup then .valid (.pending qs) else .mismatch
      | none => .mismatch
    | .poll, .fault seq code =>
      match seqOf seq with
      | some q => .valid (.fault q code)
      | none => .mismatch
    | _, _ => .mismatch

/-- The answer that a type byte and a body spell, when the type is one of the six and the body has its fields (section
11.4). -/
def answerOf (type : Byte) (body : List Byte) : Option NodeAnswer :=
  if type = 0x81 then
    match body with
    | [cls, window] => some (.ident cls window)
    | _ => none
  else if type = 0x82 then
    match body with
    | [seq] => some (.accept seq)
    | _ => none
  else if type = 0x83 then
    match body with
    | [seq, reason] => some (.refuse seq reason)
    | _ => none
  else if type = 0x84 then
    match body with
    | seq :: flags :: oh :: ol :: data => some (.segment seq flags (wordOf oh ol) data)
    | _ => none
  else if type = 0x85 then
    some (.pending body)
  else if type = 0x86 then
    match body with
    | [seq, code] => some (.fault seq code)
    | _ => none
  else none

/-- A byte received whole, with its stop bit. -/
def cleanByte (b : Byte) : LineByte := ⟨b, true⟩

/-- The number of bytes at which the answer that begins with these bytes ends: four more than the body its header declares,
and never more than 40 (R74, section 11.4). -/
def answerEnd (bytes : List LineByte) : Nat :=
  match bytes with
  | _ :: _ :: len :: _ => min (len.value.toNat + 4) maxAnswerBytes
  | _ => maxAnswerBytes

/-- How the bytes of an answer whose stop bits were all there are judged, when the answer has ended: the check byte stands
where the header declares it, so an answer that declares a body above 36 bytes ends without one (R75, R76, section 11.4). -/
def judgeAnswerBytes (x : Exchange) (bytes : List Byte) : Verdict :=
  match bytes with
  | type :: drop :: len :: rest =>
    let body := rest.take len.toNat
    if len.toNat ≤ maxAnswerBody ∧ rest.drop len.toNat = [crc8 ([type, drop, len] ++ body)] then
      match answerOf type body with
      | some a => judgeAnswer x drop a
      | none => .mismatch
    else .frameCheck
  | _ => .frameCheck

/-- How the bytes of an answer that has ended are judged. A byte without its stop bit is taken as received, and the check
byte then fails (R189). -/
def judgeReceived (x : Exchange) (bytes : List LineByte) : Verdict :=
  if bytes.all LineByte.stop then judgeAnswerBytes x (bytes.map LineByte.value) else .frameCheck

end Sys2Proof.Machine
end

