-- ==== Sys2Proof/Machine/Formats.lean ====
section
/-! DEFINITION. Machine/Formats.lean: what the part sends: the codes of Chapter 11, the response frame of a host port and
the frames on a drop line. -/

namespace Sys2Proof.Machine

/-- The status codes of a response frame (section 9.2). -/
inductive Code where
  | ok
  | queued
  | tagInUse
  | badTag
  | tableFull
  | portLimit
  | nodeUnknown
  | nodeOffline
  | badLength
  | exceedsLimit
  | notFound
  | alreadyDone
  | empty
  | badParam
  | limitConflict
  | dropInUse
  | nodeInUse
  | notPermitted
  | frameError
  | unknownCommand
  deriving DecidableEq, Repr

/-- The value of a status code (section 11.2). -/
def Code.byte : Code → Byte
  | .ok => 0x00
  | .queued => 0x01
  | .tagInUse => 0x10
  | .badTag => 0x11
  | .tableFull => 0x12
  | .portLimit => 0x13
  | .nodeUnknown => 0x14
  | .nodeOffline => 0x15
  | .badLength => 0x16
  | .exceedsLimit => 0x17
  | .notFound => 0x18
  | .alreadyDone => 0x19
  | .empty => 0x1A
  | .badParam => 0x20
  | .limitConflict => 0x21
  | .dropInUse => 0x22
  | .nodeInUse => 0x23
  | .notPermitted => 0x24
  | .frameError => 0x30
  | .unknownCommand => 0x31

/-- The answer of an owner to a command: a status code and a payload (R162). -/
structure Reply where
  code : Code
  payload : List Byte
  deriving DecidableEq, Repr

/-- An answer with an empty payload: every refusal, and the acceptances that R162 names. -/
def Reply.bare (code : Code) : Reply := ⟨code, []⟩

/-- The response frame: status, payload length, payload and check byte (R162, section 11.2). -/
def Reply.frame (r : Reply) : List Byte := closed (r.code.byte :: wordBytes r.payload.length ++ r.payload)

/-- The kind codes (section 11.2). -/
def Kind.byte : Kind → Byte
  | .read => 0x00
  | .write => 0x01

/-- The completion status codes (section 11.2). -/
def Status.byte : Status → Byte
  | .ok => 0x00
  | .short => 0x01
  | .nodeError _ => 0x02
  | .timeout => 0x03
  | .lost => 0x04
  | .nodeOffline => 0x05
  | .detached => 0x06
  | .cancelled => 0x07

/-- The node error code byte of a record: 00h for every status but NODE_ERROR (section 11.2). -/
def Status.errorByte : Status → Byte
  | .nodeError code => code
  | .ok | .short | .timeout | .lost | .nodeOffline | .detached | .cancelled => 0x00

/-- The entry flags byte: bit 0 SENT, bit 1 EXCESS, bit 2 REPEATED (section 11.2). -/
def EntryFlags.byte (f : EntryFlags) : Byte :=
  byteOf ((if f.sent then 1 else 0) + (if f.excess then 2 else 0) + (if f.repeated then 4 else 0))

/-- The state codes of QUERY (section 11.2). -/
def Phase.byte : Phase → Byte
  | .waiting => 0x01
  | .ready => 0x02
  | .issuing _ => 0x03
  | .issued .. => 0x04
  | .part .. => 0x05
  | .done .. => 0x06

/-- The latency mode codes (section 11.2). -/
def Mode.byte : Mode → Byte
  | .adaptive => 0x00
  | .fixed => 0x01

/-- The bit of an event in the event word (section 11.2). -/
def Event.weight : Event → Nat
  | .delayed => 1
  | .discarded => 2
  | .overrun => 4
  | .unexpected => 8
  | .late => 16
  | .nodeChange => 32
  | .nodeSlow => 64
  | .lineError => 128
  | .hostFrameError => 256

/-- The event word of an event set: a bit set means the event is present (section 11.2). -/
def eventWord (set : List Event) : Nat := ((allEvents.filter fun ev => set.contains ev).map Event.weight).sum

/-- The word of a set of seqs: bit n set when seq n is a member (section 11.2, NODE_STATUS). -/
def seqWord (set : List Seq) : Nat := ((allSeqs.filter fun q => set.contains q).map fun q => 2 ^ q.val).sum

/-- The disposition codes (section 11.4). -/
def Disposition.byte : Disposition → Byte
  | .accepted => 0x01
  | .hold => 0x02
  | .discard => 0x03

/-- The ack part of a frame: seq, disposition, next offset (section 11.4). -/
def Ack.bytes (a : Ack) : List Byte := [byteOf a.seq.val, a.disposition.byte] ++ wordBytes a.nextOffset

/-- The ack part of a frame when one is carried (R88). -/
def ackBytes : Option Ack → List Byte
  | some a => a.bytes
  | none => []

/-- A drop frame: type, drop, body length, body and check byte (section 11.4). -/
def dropFrame (type : Byte) (drop : DropIx) (body : List Byte) : List Byte :=
  closed ([type, byteOf drop.val, byteOf body.length] ++ body)

/-- A RESET frame: an empty body (section 11.4). -/
def resetFrame (drop : DropIx) : List Byte := dropFrame 0x01 drop []

/-- A POLL frame: the ack part, when one is carried (section 11.4). -/
def pollFrame (drop : DropIx) (ack : Option Ack) : List Byte := dropFrame 0x03 drop (ackBytes ack)

/-- The control byte of a REQUEST: bit 0 the kind, bit 1 the ack part present (section 11.4). -/
def controlByte (kind : Kind) (ack : Option Ack) : Byte :=
  byteOf ((if kind = .write then 1 else 0) + (if ack.isSome then 2 else 0))

/-- A REQUEST frame for an entry under a seq (R73, section 11.4). -/
def requestFrame (drop : DropIx) (e : Entry) (seq : Seq) (ack : Option Ack) : List Byte :=
  dropFrame 0x02 drop
    ([controlByte e.kind ack, byteOf seq.val] ++ wordBytes e.addr.toNat ++ wordBytes e.length ++ ackBytes ack ++ e.payload)

/-- The frame kind codes of LINE_STATUS, the same as the drop-frame types (section 11.2). -/
def FrameKind.byte : FrameKind → Byte
  | .reset => 0x01
  | .request _ => 0x02
  | .poll => 0x03

end Sys2Proof.Machine
end

