-- ==== Sys2Proof/Machine/Latency.lean ====
section
/-! DEFINITION. Machine/Latency.lean: the latency sample, the estimate and the spread, the slow marker and the deadline
length (Chapter 5). -/

namespace Sys2Proof.Machine

/-- The largest latency, estimate and spread, in ticks (R92, R95). -/
def maxTicks : Nat := 4095

/-- The sample from an ACCEPT to an answer: whole ticks rounded down, clamped to 4095 (R92). -/
def sampleTicks (accepted now : Time) : Nat := min (ticksSince accepted now) maxTicks

/-- The estimate after a sample: the present estimate plus an eighth of the difference, truncated toward zero (R94). -/
def nextE (e sample : Nat) : Nat := ((e : Int) + ((sample : Int) - (e : Int)).tdiv 8).toNat

/-- The spread after a sample: the present spread plus a quarter of the magnitude of the difference less the spread,
truncated toward zero (R94). -/
def nextS (e s sample : Nat) : Nat := ((s : Int) + ((((sample : Int) - (e : Int)).natAbs : Int) - (s : Int)).tdiv 4).toNat

/-- A node's E and S written, the new E compared with the slow ceiling, and NODE_SLOW raised on both ports at an upward
crossing (R95, R96). -/
def writeEstimate (n : NodeIx) (e spread : Nat) (s : State) : State :=
  let above : Bool := (s.node n).params.slowCeiling < e
  let crossed := above && !(s.node n).slow
  let written := s.modNode n fun r => { r with slow := above, bound := r.bound.map fun b => { b with e := e, s := spread } }
  if crossed then raiseBoth .nodeSlow written else written

/-- A latency sample taken at a node from an entry's accept time (R94). -/
def takeSample (n : NodeIx) (accepted : Time) (s : State) : State :=
  match s.bound n with
  | none => s
  | some b =>
    let sample := sampleTicks accepted s.now
    writeEstimate n (nextE b.e sample) (nextS b.e b.s sample) s

/-- The sample of an entry that an answer takes out of ISSUED; an entry in PARTIAL has given its sample (R92). -/
def sampleOf (e : Entry) (s : State) : State :=
  match e.phase with
  | .issued _ _ _ accepted => takeSample e.node accepted s
  | .waiting | .ready | .issuing _ | .part .. | .done .. => s

/-- The deadline length of a node's entries, in ticks: in ADAPTIVE mode E plus four times S plus the guard, clamped between
Dmin and Dmax (R97); in FIXED mode the fixed deadline (R98). -/
def deadlineTicks (s : State) (n : NodeIx) : Nat :=
  let r := s.node n
  match r.params.mode with
  | .fixed => r.params.fixedDeadline
  | .adaptive =>
    match r.bound with
    | some b => clamp s.params.dmin s.params.dmax (b.e + 4 * b.s + s.params.guard)
    | none => clamp s.params.dmin s.params.dmax s.params.guard

/-- The end of a deadline of a node's entry that starts or restarts now (R99, R100). -/
def deadlineEnd (s : State) (n : NodeIx) : Time := s.now + ticks (deadlineTicks s n)

/-- The deadline of a live entry's record set to a time (R100). -/
def Phase.withDeadline (d : Time) : Phase → Phase
  | .issued seq _ firstPoll accepted => .issued seq d firstPoll accepted
  | .part seq _ => .part seq d
  | .waiting => .waiting
  | .ready => .ready
  | .issuing seq => .issuing seq
  | .done status expiry => .done status expiry

/-- The deadline of the live entry at `i` restarted from now (R100). -/
def restartDeadline (i : EntryIx) (s : State) : State :=
  match s.entry i with
  | none => s
  | some e => s.setEntry i (some { e with phase := e.phase.withDeadline (deadlineEnd s e.node) })

/-- The estimate of a node; 0 for an ABSENT node, which has none. -/
def State.estimate (s : State) (n : NodeIx) : Nat :=
  match s.bound n with
  | some b => b.e
  | none => 0

end Sys2Proof.Machine
end

