-- ==== Sys2Proof/Machine/Nodes.lean ====
section
/-! DEFINITION. Machine/Nodes.lean: the node table: finding nodes, the in-use count and the windows, entry into OFFLINE and
the other moves of a node's state (Chapter 3). -/

namespace Sys2Proof.Machine

/-- The node bound at a drop of a line, when there is one. -/
def State.nodeAt (s : State) (l : LineIx) (d : DropIx) : Option NodeIx :=
  allNodes.find? fun n => (s.bound n).any fun b => b.line == l && b.drop == d

/-- The in-use count of a bound node: its live seqs, its issuing seq and its abandoned set (R46). -/
def State.inUse (s : State) (n : NodeIx) (b : BoundNode) : Nat :=
  (s.liveSeqs n).length + (if b.issuingSeq.isSome then 1 else 0) + b.abandoned.length

/-- The effective window: the smaller of the configured and the advertised window (R59). -/
def effectiveWindow (params : NodeParams) (advert : Advert) : Nat := min params.window advert.window

/-- The first seq from `next` on, counting upward and from 15 on to 0, that is neither live nor abandoned (R59). -/
def freeSeq (next : Seq) (taken : List Seq) : Option Seq :=
  (allSeqs.map fun k => next + k).find? fun q => !taken.contains q

/-- The advertised window as it is recorded: 0 as 1, and above 8 as 8 (R51). -/
def recordedWindow (w : Nat) : Nat := clamp 1 8 w

/-- The state code of a node in a NODE_STATUS answer (section 11.2). -/
def Health.byte : Health → Byte
  | .probing _ => 0x01
  | .online => 0x02
  | .suspect _ => 0x03
  | .offline => 0x04

/-- Whether two records of a node stand in the same one of the states PROBING, ONLINE, SUSPECT and OFFLINE. -/
def Health.same : Health → Health → Bool
  | .probing _, .probing _ => true
  | .online, .online => true
  | .suspect _, .suspect _ => true
  | .offline, .offline => true
  | _, _ => false

/-- Whether the node is OFFLINE. -/
def State.isOffline (s : State) (n : NodeIx) : Bool := (s.bound n).any fun b => b.health == .offline

/-! ## Exchanges abandoned by a change of a node -/

/-- A line state whose exchange is marked abandoned when `f` holds of it (R79). -/
def LineState.abandonIf (f : Exchange → Bool) : LineState → LineState
  | .exchanging pend x => .exchanging pend (if f x then { x with abandoned := true } else x)
  | .disabled => .disabled
  | .idle => .idle

/-- Every exchange in flight of which `f` holds marked abandoned (R79). -/
def abandonExchanges (f : Exchange → Bool) (s : State) : State :=
  { s with lines := Vector.ofFn fun l => { s.lines[l] with state := s.lines[l].state.abandonIf f } }

/-! ## Leaving service -/

/-- The order in which the open entries of a node move to DONE when it leaves service: the ISSUED and PARTIAL ones in the
order in which they last became ISSUING, the ISSUING one, the READY ones from the head of the issue queue, the WAITING
ones from the head of the admission queue (R55). -/
def openInOrder (s : State) (n : NodeIx) (b : BoundNode) : List EntryIx :=
  s.byStamp (s.liveEntries n)
    ++ (s.entriesWhere fun e => e.node == n && e.phase.issuingSeq.isSome)
    ++ b.issueQueue
    ++ (s.admission.filter fun i => s.holds i fun e => e.node == n)

/-- The fields of a node that enters OFFLINE: the issuing seq, the abandoned set, the pending acknowledgement and the times
of its back-offs are lost, the rest is kept (R55). -/
def BoundNode.offlined (b : BoundNode) : BoundNode :=
  { b with
    health := .offline
    issueQueue := []
    issuingSeq := none
    abandoned := []
    pendingAck := none
    earliestPoll := none
    refuseEnd := none }

/-- The entry of a node into OFFLINE: its open entries move to DONE with NODE_OFFLINE, its exchange in flight is abandoned,
and NODE_CHANGE is raised on both ports (R55, R67). No effect on a node that is ABSENT or already OFFLINE (R54). The test
of the admission head belongs to the event that caused the transition. -/
def goOffline (n : NodeIx) (s : State) : State :=
  match s.bound n with
  | none => s
  | some b =>
    if b.health = .offline then s
    else
      raiseBoth .nodeChange
        (abandonExchanges (fun x => x.node == n)
          ((finishAll .nodeOffline (openInOrder s n b) s).modBound n BoundNode.offlined))

/-- A failed POLL or REQUEST exchange counted on the silence count of an ONLINE or SUSPECT node: at its threshold the node
enters OFFLINE, below it an ONLINE node enters SUSPECT (R52, R64). -/
def countSilence (n : NodeIx) (s : State) : State :=
  match s.bound n with
  | none => s
  | some b =>
    let count := bumpCount b.silence
    let counted := s.modBound n fun b => { b with silence := count }
    let atThreshold : Bool := (s.node n).params.silenceThreshold ≤ count
    match b.health with
    | .online =>
      if atThreshold then goOffline n counted
      else
        raiseBoth .nodeChange
          (counted.modBound n fun b => { b with health := .suspect (s.now + millis s.params.suspectInterval) })
    | .suspect _ => if atThreshold then goOffline n counted else counted
    | .probing _ | .offline => s

/-- The fresh start that an IDENT gives a node (R51), with E and S seeded and compared with the slow ceiling (R96). -/
def identify (n : NodeIx) (cls : Byte) (window : Nat) (s : State) : State :=
  match s.bound n with
  | none => s
  | some b =>
    match b.health with
    | .probing _ =>
      let fresh := s.modBound n fun b =>
        { b with
          health := .online
          silence := 0
          timeouts := 0
          abandoned := []
          pendingAck := none
          earliestPoll := none
          refuseEnd := none
          nextSeq := 0
          advert := some ⟨recordedWindow window, cls⟩
          lastGood := some s.now }
      raiseBoth .nodeChange (writeEstimate n (s.node n).params.eSeed (s.node n).params.sSeed fresh)
    | .online | .suspect _ | .offline => s

end Sys2Proof.Machine
end

