-- ==== Sys2Proof/Machine/Lines.lean ====
section
/-! DEFINITION. Machine/Lines.lean: the line controllers: candidates, the arbiter and its grants, the end of an attempt and
of an exchange, and the disabling of a line (Chapter 4). -/

namespace Sys2Proof.Machine

/-! ## Candidates -/

/-- The exchange a node presents to its line: RESET, POLL or REQUEST (R82). -/
inductive Candidate where
  | reset
  | poll
  | request
  deriving DecidableEq, Repr

/-- Whether an ISSUED entry of the node has a first-poll time that now has reached (R84). -/
def firstPollDue (s : State) (n : NodeIx) : Bool :=
  allEntries.any fun i => s.holds i fun e =>
    match e.phase with
    | .issued _ _ firstPoll _ => e.node == n && firstPoll ≤ s.now
    | .waiting | .ready | .issuing _ | .part .. | .done .. => false

/-- Whether an entry of the node is PARTIAL (R84). -/
def hasPartial (s : State) (n : NodeIx) : Bool :=
  allEntries.any fun i => s.holds i fun e =>
    match e.phase with
    | .part .. => e.node == n
    | .waiting | .ready | .issuing _ | .issued .. | .done .. => false

/-- Whether a poll reason holds: a gated one while no poll or hold back-off is running, or a suspect check that is due
(R84). DESIGN CHOICE: a poll back-off holds back a pending acknowledgement too, as the table of R84 has it; R63 names the
hold back-off alone (log entry 24). -/
def pollReason (s : State) (n : NodeIx) (b : BoundNode) : Bool :=
  ((running s.now b.earliestPoll).isNone && (b.pendingAck.isSome || firstPollDue s n || hasPartial s n || !b.abandoned.isEmpty)) ||
    match b.health with
    | .suspect check => check ≤ s.now
    | .probing _ | .online | .offline => false

/-- Whether an ONLINE node presents a REQUEST: its issue queue is not empty, no issuing seq is present, the in-use count is
below its effective window and no refuse back-off runs (R59, R85). -/
def requestOpen (s : State) (n : NodeIx) (b : BoundNode) : Bool :=
  match b.advert with
  | none => false
  | some advert =>
    !b.issueQueue.isEmpty && b.issuingSeq.isNone && (running s.now b.refuseEnd).isNone &&
      s.inUse n b < effectiveWindow (s.node n).params advert

/-- The candidate a node presents, by the class order RESET, POLL, REQUEST (R82, R83). -/
def candidate (s : State) (n : NodeIx) (b : BoundNode) : Option Candidate :=
  match b.health with
  | .probing (some due) => if due ≤ s.now then some .reset else none
  | .probing none => none
  | .online => if pollReason s n b then some .poll else if requestOpen s n b then some .request else none
  | .suspect _ => if pollReason s n b then some .poll else none
  | .offline => none

/-- The drops of a line in search order: first the drop after the last granted one, the last granted one last (R81). -/
def searchOrder (last : DropIx) : List DropIx := [last + 1, last + 2, last + 3, last]

/-- What the arbiter finds at a drop: the node bound there with the candidate it presents. -/
def candidateAt (s : State) (l : LineIx) (d : DropIx) : Option (NodeIx × Candidate) :=
  match s.nodeAt l d with
  | none => none
  | some n =>
    match s.bound n with
    | none => none
    | some b => (candidate s n b).map fun c => (n, c)

/-- The first node found with a candidate, in search order (R81). -/
def arbiterPick (s : State) (l : LineIx) : Option (NodeIx × Candidate) :=
  (searchOrder (s.line l).lastGranted).findSome? fun d => candidateAt s l d

/-! ## The grant -/

/-- The line record of a grant: EXCHANGING with the exchange record at attempt 1, the last granted drop the node's, disable
pending clear (R72, R73). -/
def startExchange (l : LineIx) (n : NodeIx) (b : BoundNode) (kind : FrameKind) (ack : Option Ack) (frame : List Byte)
    (s : State) : State :=
  s.modLine l fun r =>
    { r with
      state := .exchanging false
        { node := n
          drop := b.drop
          kind := kind
          ack := ack
          attempt := 1
          abandoned := false
          uncounted := false
          frame := frame
          window := s.params.responseWindow
          phase := .sending }
      lastGranted := b.drop }

/-- The suspect check time of a SUSPECT node set one interval ahead, at each grant to it (R52, R73). -/
def delaySuspectCheck (n : NodeIx) (s : State) : State :=
  s.modBound n fun b =>
    match b.health with
    | .suspect _ => { b with health := .suspect (s.now + millis s.params.suspectInterval) }
    | .probing _ | .online | .offline => b

/-- The grant of a RESET: the probe time ceases to be present (R50, R73). -/
def grantReset (l : LineIx) (n : NodeIx) (b : BoundNode) (s : State) : State :=
  startExchange l n b .reset none (resetFrame b.drop) (s.modBound n fun b => { b with health := .probing none })

/-- The grant of a POLL, with the pending acknowledgement copied as the ack part (R73, R88). -/
def grantPoll (l : LineIx) (n : NodeIx) (b : BoundNode) (s : State) : State :=
  startExchange l n b .poll b.pendingAck (pollFrame b.drop b.pendingAck) (delaySuspectCheck n s)

/-- The record of an entry granted a REQUEST: ISSUING under its seq, with SENT set (R10, R17). -/
def Entry.sentAs (seq : Seq) (stamp : Nat) (e : Entry) : Entry :=
  { e with flags := { e.flags with sent := true }, stamp := stamp, phase := .issuing seq }

/-- The grant of a REQUEST to the head of the node's issue queue: a seq is allocated and becomes the issuing seq, and the
entry becomes ISSUING (R10, R59, R73). -/
def grantRequest (l : LineIx) (n : NodeIx) (b : BoundNode) (s : State) : State :=
  match b.issueQueue with
  | [] => s
  | i :: rest =>
    match s.entry i, freeSeq b.nextSeq (s.liveSeqs n ++ b.abandoned) with
    | some e, some seq =>
      let issued := { s with stamp := s.stamp + 1 }.setEntry i (some (e.sentAs seq s.stamp))
      let taken := issued.modBound n fun b =>
        { b with issueQueue := rest, issuingSeq := some seq, nextSeq := seq + 1 }
      startExchange l n b (.request seq) b.pendingAck (requestFrame b.drop e seq b.pendingAck) taken
    | _, _ => s

/-- The grant of a candidate to a bound node (R73). -/
def grantTo (l : LineIx) (n : NodeIx) (b : BoundNode) (s : State) : Candidate → State
  | .reset => grantReset l n b s
  | .poll => grantPoll l n b s
  | .request => grantRequest l n b s

/-- The search of a line's arbiter: a grant when the line is IDLE, its enable is set and a node presents a candidate
(R81). -/
def arbitrate (l : LineIx) (s : State) : State :=
  if (s.line l).state = .idle ∧ s.lineEnabled l = true then
    match arbiterPick s l with
    | none => s
    | some (n, c) =>
      match s.bound n with
      | none => s
      | some b => grantTo l n b s c
  else s

/-! ## The end of an exchange -/

/-- The counters of line `l` changed by `f` (R80). -/
def countLine (l : LineIx) (f : LineCounters → LineCounters) (s : State) : State :=
  s.modLine l fun r => { r with counters := f r.counters }

/-- The nodes of a line that becomes DISABLED enter OFFLINE, in order of drop (R89). -/
def disableNodes (l : LineIx) (s : State) : State :=
  allDrops.foldl
    (fun s d =>
      match s.nodeAt l d with
      | some n => goOffline n s
      | none => s)
    s

/-- The line released at the end of its exchange: IDLE, or DISABLED with its nodes OFFLINE when disable pending is set
(R72, R77, R89). -/
def releaseLine (l : LineIx) (s : State) : State :=
  match (s.line l).state with
  | .exchanging true _ => disableNodes l (s.modLine l fun r => { r with state := .disabled })
  | .exchanging false _ => s.modLine l fun r => { r with state := .idle }
  | .disabled | .idle => s

/-- The issuing seq of a node gone: its REQUEST exchange has ended (R61). -/
def clearIssuing (n : NodeIx) (s : State) : State := s.modBound n fun b => { b with issuingSeq := none }

/-- The outcome of a REQUEST exchange that failed after 3 attempts: its seq is abandoned; an entry still ISSUING returns to
READY uncharged when it is a READ and moves to DONE with TIMEOUT when it is a WRITE (R11, R61). -/
def requestFailed (n : NodeIx) (seq : Seq) (s : State) : State :=
  let cleared := abandonSeq n seq (clearIssuing n s)
  match s.issuingAt n seq with
  | none => cleared
  | some i =>
    match s.entry i with
    | none => cleared
    | some e =>
      match e.kind with
      | .read => returnToReady false n [i] cleared
      | .write => finish .timeout i cleared

/-- The outcome of a RESET exchange that failed after 3 attempts: the node stays PROBING, with its next probe time and its
probe-attempt counter (R50). -/
def probeFailed (n : NodeIx) (s : State) : State :=
  let due := s.now + millis s.params.probeInterval
  s.modNode n fun r =>
    match r.bound with
    | none => r
    | some b =>
      match b.health with
      | .probing _ =>
        { r with
          counters := { r.counters with probes := bump r.counters.probes }
          bound := some { b with health := .probing (some due) } }
      | .online | .suspect _ | .offline => r

/-- What the failure of an exchange after 3 attempts does, by the kind of its frame (R78). -/
def exchangeOutcome (x : Exchange) (s : State) : State :=
  match x.kind with
  | .reset => probeFailed x.node s
  | .request seq => countSilence x.node (requestFailed x.node seq s)
  | .poll => countSilence x.node s

/-- The failed end of an exchange: counted on the line, its outcome applied unless it was abandoned, the line released
(R78, R79). -/
def exchangeFails (l : LineIx) (x : Exchange) (s : State) : State :=
  let counted := if x.uncounted then s else countLine l (fun c => { c with failed := bump c.failed }) s
  releaseLine l (if x.abandoned then counted else exchangeOutcome x counted)

/-- The same frame sent again: the next attempt begins, with the response window as it then stands (R74, R76). -/
def sendAgain (l : LineIx) (x : Exchange) (s : State) : State :=
  s.modLine l fun r =>
    match r.state with
    | .exchanging pend _ =>
      { r with
        state := .exchanging pend
          { x with attempt := x.attempt + 1, window := s.params.responseWindow, phase := .sending } }
    | .disabled | .idle => r

/-- The cause of a failed attempt, which names its line counter (R76). -/
inductive AttemptFault where
  | noAnswer
  | frameCheck
  | mismatch
  deriving DecidableEq, Repr

/-- The line counter of a failed attempt one higher (R76). -/
def AttemptFault.count (f : AttemptFault) (c : LineCounters) : LineCounters :=
  match f with
  | .noAnswer => { c with noAnswer := bump c.noAnswer }
  | .frameCheck => { c with frameCheck := bump c.frameCheck }
  | .mismatch => { c with mismatch := bump c.mismatch }

/-- A failed attempt of the exchange `x` on line `l`: LINE_ERROR on both ports and one line counter, neither after
DEVICE_RESET; then the frame is sent again, or after attempt 3 the exchange has failed; an abandoned exchange makes no
further attempt (R76, R78, R79). -/
def attemptFails (f : AttemptFault) (l : LineIx) (x : Exchange) (s : State) : State :=
  let counted := if x.uncounted then s else raiseBoth .lineError (countLine l f.count s)
  if x.abandoned then exchangeFails l x counted
  else if x.attempt < 3 then sendAgain l x counted
  else exchangeFails l x counted

/-- The exchange of a line whose attempt awaits an answer or receives one, with the bytes received so far and the time from
which the line has been quiet: when the response window opened, or when the last byte was received (R74). -/
def listening (s : State) (l : LineIx) : Option (Exchange × List LineByte × Time) :=
  match (s.line l).state with
  | .exchanging _ x =>
    match x.phase with
    | .awaiting opened => some (x, [], opened)
    | .receiving bytes last => some (x, bytes, last)
    | .sending => none
  | .disabled | .idle => none

/-- The phase of the attempt on line `l` replaced. -/
def setPhase (l : LineIx) (phase : AttemptPhase) (s : State) : State :=
  s.modLine l fun r =>
    match r.state with
    | .exchanging pend x => { r with state := .exchanging pend { x with phase := phase } }
    | .disabled | .idle => r

/-- The response window of line `l` opened: the last byte of the attempt's frame has been sent (R74). -/
def openWindow (l : LineIx) (s : State) : State :=
  match (s.line l).state with
  | .exchanging _ x =>
    match x.phase with
    | .sending => setPhase l (.awaiting s.now) s
    | .awaiting _ | .receiving .. => s
  | .disabled | .idle => s

/-- Whether `count` bytes of one answer, one at least and the last of them received now, can have followed each other as R74
asks: each begins within a response window of the one before it, the first within the window from `since`, and takes its byte
time (R189; log entry 11). -/
def keepsUp (x : Exchange) (since : Time) (count : Nat) (now : Time) : Bool :=
  0 < count && now < since + count * (x.window + byteTime)

end Sys2Proof.Machine
end

