-- ==== Sys2Proof/Machine/Params.lean ====
section
/-! DEFINITION. Machine/Params.lean: the parameter store: the parameter numbers, ranges and owners, the tests of SET_PARAM
and the actions a write causes (Chapter 10, section 11.3). -/

namespace Sys2Proof.Machine

/-- The per-node parameters by their index 0 to 8 (section 11.3). -/
inductive NodeParam where
  | window
  | mode
  | fixedDeadline
  | eSeed
  | sSeed
  | slowCeiling
  | retryLimit
  | silenceThreshold
  | timeoutThreshold
  deriving DecidableEq, Repr

/-- The parameters: global (R178), per port (R179) and per node (R180). -/
inductive Param where
  | limit
  | responseWindow
  | dmin
  | dmax
  | guard
  | probeInterval
  | suspectInterval
  | lineEnable (l : LineIx)
  | ceiling (p : Port)
  | holdTime
  | queueAttention
  | eventEnable (ev : Event)
  | node (n : NodeIx) (k : NodeParam)
  deriving DecidableEq, Repr

/-- The per-node parameter of an index (section 11.3); indexes 9 to 15 are unknown. -/
def nodeParamOf : Nat → Option NodeParam
  | 0 => some .window
  | 1 => some .mode
  | 2 => some .fixedDeadline
  | 3 => some .eSeed
  | 4 => some .sSeed
  | 5 => some .slowCeiling
  | 6 => some .retryLimit
  | 7 => some .silenceThreshold
  | 8 => some .timeoutThreshold
  | _ => none

/-- The per-node parameters' numbers: 0100h plus 10h times the node plus the index (section 11.3). -/
def nodeNumber (num : Nat) : Option Param :=
  if h : 0x100 ≤ num ∧ num < 0x200 then
    (nodeParamOf (num % 16)).map fun k => .node ⟨(num - 0x100) / 16, by omega⟩ k
  else none

/-- The parameter that a number names (section 11.3). -/
def paramOf (num : Nat) : Option Param :=
  match num with
  | 0x0001 => some .limit
  | 0x0002 => some .responseWindow
  | 0x0003 => some .dmin
  | 0x0004 => some .dmax
  | 0x0005 => some .guard
  | 0x0006 => some .probeInterval
  | 0x0007 => some .suspectInterval
  | 0x0010 => some (.lineEnable 0)
  | 0x0011 => some (.lineEnable 1)
  | 0x0012 => some (.lineEnable 2)
  | 0x0013 => some (.lineEnable 3)
  | 0x0018 => some (.ceiling .a)
  | 0x0019 => some (.ceiling .b)
  | 0x0020 => some .holdTime
  | 0x0021 => some .queueAttention
  | 0x0028 => some (.eventEnable .delayed)
  | 0x0029 => some (.eventEnable .discarded)
  | 0x002A => some (.eventEnable .overrun)
  | 0x002B => some (.eventEnable .unexpected)
  | 0x002C => some (.eventEnable .late)
  | 0x002D => some (.eventEnable .nodeChange)
  | 0x002E => some (.eventEnable .nodeSlow)
  | 0x002F => some (.eventEnable .lineError)
  | 0x0030 => some (.eventEnable .hostFrameError)
  | _ => nodeNumber num

/-- Whether a parameter is a port's own, so that each port writes and reads its own copy (R179). -/
def Param.perPort : Param → Bool
  | .holdTime | .queueAttention | .eventEnable _ => true
  | .limit | .responseWindow | .dmin | .dmax | .guard | .probeInterval | .suspectInterval | .lineEnable _ | .ceiling _
  | .node .. => false

/-- A two-valued parameter's number: 1 set, 0 clear. -/
def flagNat (b : Bool) : Nat := if b then 1 else 0

/-- The number of a latency mode: ADAPTIVE 0, FIXED 1 (R180). -/
def Mode.number : Mode → Nat
  | .adaptive => 0
  | .fixed => 1

/-- The value of a per-node parameter (R180). -/
def NodeParams.get (r : NodeParams) : NodeParam → Nat
  | .window => r.window
  | .mode => r.mode.number
  | .fixedDeadline => r.fixedDeadline
  | .eSeed => r.eSeed
  | .sSeed => r.sSeed
  | .slowCeiling => r.slowCeiling
  | .retryLimit => r.retryLimit
  | .silenceThreshold => r.silenceThreshold
  | .timeoutThreshold => r.timeoutThreshold

/-- The value in force of a parameter, as port `p` reads it (R183). -/
def paramValue (s : State) (p : Port) : Param → Nat
  | .limit => s.params.limit
  | .responseWindow => s.params.responseWindow
  | .dmin => s.params.dmin
  | .dmax => s.params.dmax
  | .guard => s.params.guard
  | .probeInterval => s.params.probeInterval
  | .suspectInterval => s.params.suspectInterval
  | .lineEnable l => flagNat (s.lineEnabled l)
  | .ceiling q => s.ceiling q
  | .holdTime => (s.port p).params.holdTime
  | .queueAttention => flagNat (s.port p).params.queueAttention
  | .eventEnable ev => flagNat ((s.port p).params.enables.contains ev)
  | .node n k => (s.node n).params.get k

/-- The range of a per-node parameter (R180). -/
def NodeParam.range : NodeParam → Nat × Nat
  | .window => (1, 8)
  | .mode => (0, 1)
  | .fixedDeadline => (1, 4095)
  | .eSeed => (0, 4095)
  | .sSeed => (0, 4095)
  | .slowCeiling => (1, 4095)
  | .retryLimit => (0, 3)
  | .silenceThreshold => (1, 15)
  | .timeoutThreshold => (1, 15)

/-- The range of a parameter, both ends included (R178, R179, R180). -/
def Param.range : Param → Nat × Nat
  | .limit => (1, 1023)
  | .responseWindow => (20, 1000)
  | .dmin => (1, 4095)
  | .dmax => (1, 4095)
  | .guard => (0, 255)
  | .probeInterval => (1, 255)
  | .suspectInterval => (1, 255)
  | .lineEnable _ => (0, 1)
  | .ceiling _ => (1, 48)
  | .holdTime => (0, 255)
  | .queueAttention => (0, 1)
  | .eventEnable _ => (0, 1)
  | .node _ k => k.range

/-- Whether a value lies within a parameter's range. -/
def Param.inRange (q : Param) (v : Nat) : Bool := q.range.1 ≤ v && v ≤ q.range.2

/-- Whether a value would put Dmin above Dmax (R182, bound pair). -/
def breaksPair (s : State) (v : Nat) : Param → Bool
  | .dmin => s.params.dmax < v
  | .dmax => v < s.params.dmin
  | .limit | .responseWindow | .guard | .probeInterval | .suspectInterval | .lineEnable _ | .ceiling _ | .holdTime
  | .queueAttention | .eventEnable _ | .node .. => false

/-- Whether a value of the commitment limit is below the committed total or below the need of a WAITING entry (R35). -/
def breaksCommitment (s : State) (v : Nat) : Param → Bool
  | .limit => v < s.committedTotal || s.used.any fun e => e.phase == .waiting && v < e.need
  | .responseWindow | .dmin | .dmax | .guard | .probeInterval | .suspectInterval | .lineEnable _ | .ceiling _
  | .holdTime | .queueAttention | .eventEnable _ | .node .. => false

/-- The latency mode of a number. -/
def modeOfNumber (v : Nat) : Mode := if v = 0 then .adaptive else .fixed

/-- A per-node parameter written (R180). -/
def NodeParams.put (k : NodeParam) (v : Nat) (r : NodeParams) : NodeParams :=
  match k with
  | .window => { r with window := v }
  | .mode => { r with mode := modeOfNumber v }
  | .fixedDeadline => { r with fixedDeadline := v }
  | .eSeed => { r with eSeed := v }
  | .sSeed => { r with sSeed := v }
  | .slowCeiling => { r with slowCeiling := v }
  | .retryLimit => { r with retryLimit := v }
  | .silenceThreshold => { r with silenceThreshold := v }
  | .timeoutThreshold => { r with timeoutThreshold := v }

/-- The enables of a port with one event's enable written, in event-word order. -/
def putEnable (ev : Event) (set : Bool) (enables : List Event) : List Event :=
  if set then withEvent ev enables else withoutEvent ev enables

/-- The line enable cleared: an IDLE line becomes DISABLED with its nodes OFFLINE, an EXCHANGING line gets disable pending
(R89). -/
def disableLine (l : LineIx) (s : State) : State :=
  match (s.line l).state with
  | .idle => disableNodes l (s.modLine l fun r => { r with state := .disabled })
  | .exchanging _ x => s.modLine l fun r => { r with state := .exchanging true x }
  | .disabled => s

/-- The line enable set: a DISABLED line becomes IDLE, disable pending is cleared (R90). -/
def enableLine (l : LineIx) (s : State) : State :=
  match (s.line l).state with
  | .disabled => s.modLine l fun r => { r with state := .idle }
  | .exchanging _ x => s.modLine l fun r => { r with state := .exchanging false x }
  | .idle => s

/-- The line enable written, with the action the write causes; a write of the value already held causes none (R182). -/
def writeLineEnable (l : LineIx) (set : Bool) (s : State) : State :=
  if s.lineEnabled l = set then s
  else
    let written := { s with params := { s.params with lineEnable := s.params.lineEnable.set l set } }
    if set then enableLine l written else disableLine l written

/-- The value of a parameter written on behalf of port `p`, with the action the write causes at a line (R182). -/
def writeParam (p : Port) (v : Nat) (s : State) : Param → State
  | .limit => { s with params := { s.params with limit := v } }
  | .responseWindow => { s with params := { s.params with responseWindow := v } }
  | .dmin => { s with params := { s.params with dmin := v } }
  | .dmax => { s with params := { s.params with dmax := v } }
  | .guard => { s with params := { s.params with guard := v } }
  | .probeInterval => { s with params := { s.params with probeInterval := v } }
  | .suspectInterval => { s with params := { s.params with suspectInterval := v } }
  | .lineEnable l => writeLineEnable l (v == 1) s
  | .ceiling .a => { s with params := { s.params with ceilingA := v } }
  | .ceiling .b => { s with params := { s.params with ceilingB := v } }
  | .holdTime => s.modPort p fun r => { r with params := { r.params with holdTime := v } }
  | .queueAttention => s.modPort p fun r => { r with params := { r.params with queueAttention := v == 1 } }
  | .eventEnable ev => s.modPort p fun r => { r with params := { r.params with enables := putEnable ev (v == 1) r.params.enables } }
  | .node n k => s.modNode n fun r => { r with params := r.params.put k v }

/-- SET_PARAM on port `p`: the tests in order (permission, number, range, bound pair, commitment), then the write with its
actions, a raised commitment limit testing the head of the admission queue (R182). -/
def setParamOp (p : Port) (num value : Nat) (s : State) : State × Reply :=
  match paramOf num with
  | none => (s, .bare .badParam)
  | some q =>
    if p = .b ∧ q.perPort = false then (s, .bare .notPermitted)
    else if q.inRange value = false then (s, .bare .badParam)
    else if breaksPair s value q then (s, .bare .badParam)
    else if breaksCommitment s value q then (s, .bare .limitConflict)
    else (retest s (writeParam p value s q), .bare .ok)

/-- GET_PARAM on port `p`: the value in force, or BAD_PARAM for an unknown number (R183). -/
def getParamOp (p : Port) (num : Nat) (s : State) : State × Reply :=
  match paramOf num with
  | none => (s, .bare .badParam)
  | some q => (s, ⟨.ok, wordBytes (paramValue s p q)⟩)

end Sys2Proof.Machine
end

