-- ==== Sys2Proof/Machine/NodeCommands.lean ====
section
/-! DEFINITION. Machine/NodeCommands.lean: the node commands NODE_ATTACH, NODE_DETACH and NODE_REPROBE (section 3.2). -/

namespace Sys2Proof.Machine

/-- Whether another bound node holds a (line, drop) position (R49). -/
def positionHeld (s : State) (n : NodeIx) (l : LineIx) (d : DropIx) : Bool :=
  allNodes.any fun m => m != n && (s.bound m).any fun b => b.line == l && b.drop == d

/-- The fields of a node at its binding: an empty record with E and S seeded (R49). -/
def freshNode (params : NodeParams) (l : LineIx) (d : DropIx) (health : Health) : BoundNode where
  line := l
  drop := d
  health := health
  advert := none
  issueQueue := []
  nextSeq := 0
  issuingSeq := none
  abandoned := []
  pendingAck := none
  e := params.eSeed
  s := params.sSeed
  silence := 0
  timeouts := 0
  earliestPoll := none
  refuseEnd := none
  lastGood := none

/-- The state a bound node starts in: PROBING with its probe time now when the line's enable is set, OFFLINE when it is
clear (R49, R68). -/
def startHealth (s : State) (l : LineIx) : Health := if s.lineEnabled l then .probing (some s.now) else .offline

/-- The record set up by NODE_ATTACH, its seeding compared with the slow ceiling from a clear marker, NODE_CHANGE raised
(R49, R95, R96). -/
def attach (n : NodeIx) (l : LineIx) (d : DropIx) (window : Nat) (mode : Mode) (s : State) : State :=
  let params := { (s.node n).params with window := window, mode := mode }
  let record : NodeRec :=
    { params := params, slow := false, counters := .zero, bound := some (freshNode params l d (startHealth s l)) }
  raiseBoth .nodeChange (writeEstimate n params.eSeed params.sSeed (s.setNode n record))

/-- NODE_ATTACH on port `p`: permission, ranges, the node, the position, in this order (R49). -/
def nodeAttachOp (p : Port) (node line drop window mode : Byte) (s : State) : State × Reply :=
  if p = .b then (s, .bare .notPermitted)
  else
    match nodeOf node, lineOf line, dropOf drop, windowOf window, modeOf mode with
    | some n, some l, some d, some w, some m =>
      if (s.bound n).isSome then (s, .bare .nodeInUse)
      else if positionHeld s n l d then (s, .bare .dropInUse)
      else (attach n l d w m s, .bare .ok)
    | _, _, _, _, _ => (s, .bare .badParam)

/-- The record of a detached node: ABSENT, slow marker clear, counters 0, parameters kept (R56, R96). -/
def NodeRec.detached (r : NodeRec) : NodeRec := { r with slow := false, counters := .zero, bound := none }

/-- A bound node detached: its open entries move to DONE with DETACHED in the order of R55, its exchange in flight is
abandoned, the record returns to ABSENT, NODE_CHANGE is raised, and admission tests its head once (R56, R147). -/
def detach (n : NodeIx) (b : BoundNode) (s : State) : State :=
  retest s
    (raiseBoth .nodeChange
      (abandonExchanges (fun x => x.node == n)
        ((finishAll .detached (openInOrder s n b) s).modNode n NodeRec.detached)))

/-- NODE_DETACH on port `p` (R56). -/
def nodeDetachOp (p : Port) (node : Byte) (s : State) : State × Reply :=
  if p = .b then (s, .bare .notPermitted)
  else
    match nodeOf node with
    | none => (s, .bare .badParam)
    | some n =>
      match s.bound n with
      | none => (s, .bare .nodeUnknown)
      | some b => (detach n b s, .bare .ok)

/-- The fields of a node that a reprobe sends to PROBING (R57). -/
def BoundNode.reprobed (now : Time) (b : BoundNode) : BoundNode :=
  { b with health := .probing (some now), pendingAck := none, earliestPoll := none, refuseEnd := none }

/-- A bound node sent to PROBING by a reprobe: its live READs return to READY uncharged, its live WRITEs move to DONE with
LOST, a POLL in flight is abandoned, and NODE_CHANGE is raised when the state changes (R57, R58). -/
def reprobe (n : NodeIx) (b : BoundNode) (s : State) : State :=
  let live := s.byStamp (s.liveEntries n)
  let reads := live.filter fun i => s.holds i fun e => e.kind == .read
  let writes := live.filter fun i => s.holds i fun e => e.kind == .write
  let withdrawn := finishAll .lost writes (returnToReady false n reads s)
  let probing :=
    abandonExchanges (fun x => x.node == n && x.kind == .poll) (withdrawn.modBound n (BoundNode.reprobed s.now))
  if b.health.same (.probing none) then probing else raiseBoth .nodeChange probing

/-- NODE_REPROBE on port `p`: an OFFLINE node of a line whose enable is clear stays OFFLINE, its record unchanged (R57). -/
def nodeReprobeOp (p : Port) (node : Byte) (s : State) : State × Reply :=
  if p = .b then (s, .bare .notPermitted)
  else
    match nodeOf node with
    | none => (s, .bare .badParam)
    | some n =>
      match s.bound n with
      | none => (s, .bare .nodeUnknown)
      | some b =>
        if b.health = .offline ∧ s.lineEnabled b.line = false then (s, .bare .ok)
        else (reprobe n b s, .bare .ok)

end Sys2Proof.Machine
end

