-- ==== Sys2Proof/Machine/Resets.lean ====
section
/-! DEFINITION. Machine/Resets.lean: PORT_RESET, DEVICE_RESET and RSTN (sections 8.3 to 8.5). -/

namespace Sys2Proof.Machine

/-! ## PORT_RESET -/

/-- The entry at `i` flushed by PORT_RESET: a live seq goes into its node's abandoned set, and the entry is freed without a
record (R148). -/
def flushEntry (i : EntryIx) (s : State) : State :=
  match s.entry i with
  | none => s
  | some e => freeEntry i (abandonLive e s)

/-- The port record after PORT_RESET: queue, marker, events and counters empty, parameters kept (R127, R149, R157). -/
def PortRec.flushed (r : PortRec) : PortRec :=
  { r with
    events := []
    readMarker := none
    counters := .zero
    completion := []
    collect := none
    discards := 0 }

/-- PORT_RESET of port `p` (R148, R149). -/
def portResetOp (p : Port) (s : State) : State × Reply :=
  let freed := (s.entriesWhere fun e => e.port == p).foldl (fun s i => flushEntry i s) s
  (retest s (freed.modPort p PortRec.flushed), .bare .ok)

/-! ## DEVICE_RESET -/

/-- The fresh start that DEVICE_RESET gives a bound node (R68). -/
def BoundNode.restarted (params : NodeParams) (health : Health) (b : BoundNode) : BoundNode :=
  { freshNode params b.line b.drop health with advert := b.advert }

/-- A node record after DEVICE_RESET: binding and parameters kept, the slow marker following the seeded E without an event,
counters 0; an ABSENT record stays ABSENT (R68, R96). -/
def NodeRec.restarted (health : LineIx → Health) (r : NodeRec) : NodeRec :=
  match r.bound with
  | none => { r with counters := .zero }
  | some b =>
    { r with
      slow := r.params.slowCeiling < r.params.eSeed
      counters := .zero
      bound := some (b.restarted r.params (health b.line)) }

/-- A line state after DEVICE_RESET: an exchange in flight is abandoned and its end counted nowhere; otherwise IDLE when the
enable is set and DISABLED when it is clear (R71, R79). -/
def LineState.restarted (enabled : Bool) : LineState → LineState
  | .exchanging pend x => .exchanging pend { x with abandoned := true, uncounted := true }
  | .disabled => if enabled then .idle else .disabled
  | .idle => if enabled then .idle else .disabled

/-- DEVICE_RESET taken from port A (R152). -/
def restartDevice (s : State) : State :=
  { s with
    table := Vector.replicate 48 none
    admission := []
    nodes := Vector.ofFn fun n => s.nodes[n].restarted (startHealth s)
    lines := Vector.ofFn fun l =>
      { state := s.lines[l].state.restarted (s.lineEnabled l), lastGranted := 3, counters := .zero }
    portA := s.portA.flushed
    portB := s.portB.flushed }

/-- DEVICE_RESET on port `p`: NOT_PERMITTED from port B (R152, R164). -/
def deviceResetOp (p : Port) (s : State) : State × Reply :=
  if p = .b then (s, .bare .notPermitted) else (restartDevice s, .bare .ok)

/-! ## RSTN -/

/-- A port while RSTN is low: power-on values; its receiver ignores a window that is open (R156, R157). -/
def heldPort (csLow : Bool) : PortRec :=
  { PortRec.powerOn with csLow := csLow, receiver := if csLow then .ignoring else .idle }

/-- The part with RSTN low: every block at its power-on values, frames on ports and lines aborted; the levels of the chip
selects, the time and the data of the buffer, which no reset clears, stay (R37, R156). -/
def holdReset (s : State) : State :=
  { State.reset with
    now := s.now
    rstnLow := true
    portA := heldPort s.portA.csLow
    portB := heldPort s.portB.csLow
    buffer := s.buffer
    pending := s.pending }

/-- The receiver of a port as RSTN rises: IGNORING when chip select is low, IDLE when it is high (R157). -/
def PortRec.released (r : PortRec) : PortRec := { r with receiver := if r.csLow then .ignoring else .idle }

/-- The part released by RSTN rising; no effect when RSTN is high already (R156). -/
def releaseReset (s : State) : State :=
  if s.rstnLow then { s with rstnLow := false, portA := s.portA.released, portB := s.portB.released } else s

end Sys2Proof.Machine
end

