-- ==== Sys2Proof/Machine/Status.lean ====
section
/-! DEFINITION. Machine/Status.lean: the status commands PORT_STATUS, NODE_STATUS and LINE_STATUS, READ_EVENTS and ECHO
(sections 9.5 to 9.7). -/

namespace Sys2Proof.Machine

/-- The PORT_STATUS payload (R168, section 11.2). -/
def portStatusBytes (s : State) (p : Port) : List Byte :=
  let r := s.port p
  [byteOf (s.occupancy p), byteOf (s.ceiling p), byteOf r.completion.length]
    ++ wordBytes r.discards ++ wordBytes s.committedTotal ++ [byteOf s.occupied.length]
    ++ wordBytes r.counters.answered ++ wordBytes r.counters.errors ++ wordBytes r.counters.cut

/-- PORT_STATUS: the figures, then with the clear flag the discard counter and the port counters set to 0 (R168, R171). -/
def portStatusOp (p : Port) (clear : Bool) (s : State) : State × Reply :=
  (if clear then s.modPort p fun r => { r with discards := 0, counters := .zero } else s, ⟨.ok, portStatusBytes s p⟩)

/-- READ_EVENTS: the event word, with the read marker set to the reported events; the set is not changed (R176). -/
def readEventsOp (p : Port) (s : State) : State × Reply :=
  (s.modPort p fun r => { r with readMarker := some r.events }, ⟨.ok, wordBytes (eventWord (s.port p).events)⟩)

/-- ECHO: the payload unchanged (R172). -/
def echoOp (payload : List Byte) (s : State) : State × Reply := (s, ⟨.ok, payload⟩)

/-! ## NODE_STATUS -/

/-- An optional number of a payload as one byte, 00h when it is absent (R188). -/
def optByte (o : Option Nat) : Byte :=
  match o with
  | some n => byteOf n
  | none => 0x00

/-- An optional number of a payload as two bytes, 00h when it is absent (R188). -/
def optWord (o : Option Nat) : List Byte :=
  match o with
  | some n => wordBytes n
  | none => [0x00, 0x00]

/-- The time that is present in PROBING or SUSPECT only (R169). -/
def Health.time : Health → Option Time
  | .probing due => due
  | .suspect check => some check
  | .online | .offline => none

/-- The state code of a node record: 00h ABSENT (section 11.2). -/
def nodeStateByte (o : Option BoundNode) : Byte :=
  match o with
  | some b => b.health.byte
  | none => 0x00

/-- The presence byte of a NODE_STATUS answer (section 11.2). -/
def presenceByte (now : Time) (o : Option BoundNode) : Byte :=
  match o with
  | none => 0x00
  | some b =>
    byteOf (1 + (if b.advert.isSome then 2 else 0) + (if b.issuingSeq.isSome then 4 else 0)
      + (if b.pendingAck.isSome then 8 else 0) + (if (running now b.earliestPoll).isSome then 16 else 0)
      + (if (running now b.refuseEnd).isSome then 32 else 0) + (if b.health.time.isSome then 64 else 0)
      + (if b.lastGood.isSome then 128 else 0))

/-- The pending acknowledgement in a NODE_STATUS answer: seq, disposition, next offset (section 11.2). -/
def ackStatus : Option Ack → List Byte
  | some a => [byteOf a.seq.val, a.disposition.byte] ++ wordBytes a.nextOffset
  | none => [0x00, 0x00, 0x00, 0x00]

/-- Bytes 14 to 32 of a NODE_STATUS answer for a bound node (R169, section 11.2). -/
def boundStatus (s : State) (n : NodeIx) (b : BoundNode) : List Byte :=
  [byteOf b.silence, byteOf b.timeouts, byteOf (s.inUse n b), optByte (b.issuingSeq.map Fin.val)]
    ++ wordBytes (seqWord b.abandoned) ++ ackStatus b.pendingAck ++ [byteOf b.issueQueue.length]
    ++ optWord ((running s.now b.earliestPoll).map (ticksUntil s.now))
    ++ optWord ((running s.now b.refuseEnd).map (ticksUntil s.now))
    ++ optWord (b.health.time.map (ticksUntil s.now))
    ++ optWord (b.lastGood.map fun at_ => min (ticksSince at_ s.now) 65535)

/-- The parameters of a NODE_STATUS answer from byte 33 on, and the counters (section 11.2). -/
def nodeParamBytes (r : NodeRec) : List Byte :=
  [r.params.mode.byte] ++ wordBytes r.params.fixedDeadline ++ wordBytes r.params.eSeed ++ wordBytes r.params.sSeed
    ++ wordBytes r.params.slowCeiling
    ++ [byteOf r.params.retryLimit, byteOf r.params.silenceThreshold, byteOf r.params.timeoutThreshold]
    ++ wordBytes r.counters.timeouts ++ wordBytes r.counters.late ++ wordBytes r.counters.unexpected
    ++ wordBytes r.counters.probes

/-- The NODE_STATUS payload: 53 bytes, with 00h in every byte of an absent item (R169, R188, section 11.2). -/
def nodeStatusBytes (s : State) (n : NodeIx) : List Byte :=
  let r := s.node n
  let advert := r.bound.bind BoundNode.advert
  [byteOf n.val, nodeStateByte r.bound, presenceByte s.now r.bound,
    optByte (r.bound.map fun b => b.line.val), optByte (r.bound.map fun b => b.drop.val), byteOf r.params.window,
    optByte (advert.map Advert.window), optByte (advert.map (effectiveWindow r.params)),
    optByte (advert.map fun a => a.cls.toNat)]
    ++ optWord (r.bound.map BoundNode.e) ++ optWord (r.bound.map BoundNode.s) ++ [flagByte r.slow]
    ++ (match r.bound with
      | some b => boundStatus s n b
      | none => List.replicate 19 0x00)
    ++ nodeParamBytes r

/-- NODE_STATUS: the record, then with the clear flag its four counters set to 0; BAD_PARAM for a node above 15 (R169). -/
def nodeStatusOp (node : Byte) (clear : Bool) (s : State) : State × Reply :=
  match nodeOf node with
  | none => (s, .bare .badParam)
  | some n =>
    (if clear then s.modNode n fun r => { r with counters := .zero } else s, ⟨.ok, nodeStatusBytes s n⟩)

/-! ## LINE_STATUS -/

/-- The line state codes (section 11.2). -/
def LineState.byte : LineState → Byte
  | .disabled => 0x00
  | .idle => 0x01
  | .exchanging .. => 0x02

/-- The disable pending marker of a line state. -/
def LineState.disablePending : LineState → Bool
  | .exchanging pend _ => pend
  | .disabled | .idle => false

/-- The current exchange of a line state. -/
def LineState.exchange : LineState → Option Exchange
  | .exchanging _ x => some x
  | .disabled | .idle => none

/-- The node bound at a drop as a byte, FFh where none (section 11.2). -/
def boundByte (s : State) (l : LineIx) (d : DropIx) : Byte :=
  match s.nodeAt l d with
  | some n => byteOf n.val
  | none => 0xFF

/-- Bytes 9 to 15 of a LINE_STATUS answer: the current exchange (section 11.2). -/
def exchangeStatus : Option Exchange → List Byte
  | none => [0x00, 0x00, 0x00, 0x00, 0xFF, 0x00, 0x00]
  | some x =>
    [0x01, byteOf x.node.val, byteOf x.drop.val, x.kind.byte,
      (match x.kind with
        | .request seq => byteOf seq.val
        | .reset | .poll => 0xFF),
      byteOf x.attempt, flagByte x.abandoned]

/-- The LINE_STATUS payload (R170, section 11.2). -/
def lineStatusBytes (s : State) (l : LineIx) : List Byte :=
  let r := s.line l
  [byteOf l.val, r.state.byte, flagByte (s.lineEnabled l), flagByte r.state.disablePending, byteOf r.lastGranted.val]
    ++ allDrops.map (boundByte s l) ++ exchangeStatus r.state.exchange
    ++ wordBytes r.counters.exchanges ++ wordBytes r.counters.noAnswer ++ wordBytes r.counters.frameCheck
    ++ wordBytes r.counters.mismatch ++ wordBytes r.counters.failed

/-- LINE_STATUS: the record, then with the clear flag its counters set to 0; BAD_PARAM for a line above 3 (R170). -/
def lineStatusOp (line : Byte) (clear : Bool) (s : State) : State × Reply :=
  match lineOf line with
  | none => (s, .bare .badParam)
  | some l =>
    (if clear then s.modLine l fun r => { r with counters := .zero } else s, ⟨.ok, lineStatusBytes s l⟩)

end Sys2Proof.Machine
end

