-- ==== Sys2Proof/Machine/Completion.lean ====
section
/-! DEFINITION. Machine/Completion.lean: the completion units: the completion record, COLLECT, and how a collect and a
record's hold time end (Chapter 7). -/

namespace Sys2Proof.Machine

/-- The delivered length of a DONE entry: received for a READ with OK or SHORT, 0 for every other record (R129). -/
def Entry.delivered (status : Status) (e : Entry) : Nat :=
  match e.kind with
  | .read => if status.delivers then e.received else 0
  | .write => 0

/-- The completion record of a DONE entry with its data, as the COLLECT payload lays it out (R129, R130, section 11.2). -/
def recordBytes (s : State) (status : Status) (e : Entry) : List Byte :=
  [byteOf e.tag.val, byteOf e.node.val, e.kind.byte, status.byte, e.flags.byte, byteOf e.retries]
    ++ wordBytes (e.delivered status) ++ [status.errorByte]
    ++ loadBytes e.blocks (e.delivered status) s.buffer

/-- COLLECT on port `p`: EMPTY on an empty queue (R131); otherwise the head's record, with the collect marker set on the
head and the expiry deferred mark clear (R132). -/
def collectHead (p : Port) (s : State) : State × Reply :=
  match (s.port p).completion with
  | [] => (s, .bare .empty)
  | i :: _ =>
    match s.entry i with
    | none => (s, .bare .empty)
    | some e =>
      match e.phase with
      | .done status _ =>
        (s.modPort p fun r => { r with collect := some ⟨i, false⟩ }, ⟨.ok, recordBytes s status e⟩)
      | .waiting | .ready | .issuing _ | .issued .. | .part .. => (s, .bare .empty)

/-- The discard of a DONE entry of port `p`: freed without a record, the discard counter one higher, DISCARDED raised
(R137, R139). -/
def discard (p : Port) (i : EntryIx) (s : State) : State :=
  raiseOn p .discarded ((freeEntry i s).modPort p fun r => { r with discards := bump r.discards })

/-- The record of an entry whose collect was interrupted: REPEATED set (R134). -/
def Entry.repeatedOnce (e : Entry) : Entry := { e with flags := { e.flags with repeated := true } }

/-- The collect of port `p` settled at chip select rising: a complete one frees the marked entry and drops a deferred expiry
(R133); an interrupted one sets REPEATED, and discards the entry when its expiry was deferred (R134). The marker is then
absent. -/
def settleCollect (p : Port) (complete : Bool) (s : State) : State :=
  match (s.port p).collect with
  | none => s
  | some m =>
    let unmarked := s.modPort p fun r => { r with collect := none }
    if complete then freeEntry m.entry unmarked
    else
      let kept := unmarked.modEntry m.entry Entry.repeatedOnce
      if m.deferred then discard p m.entry kept else kept

/-- The READ_EVENTS of port `p` settled at chip select rising: a complete one removes the events still in the read marker
from the set, an interrupted one leaves the set; the marker is then absent (R176). -/
def settleEvents (p : Port) (complete : Bool) (s : State) : State :=
  s.modPort p fun r =>
    match r.readMarker with
    | none => r
    | some marked =>
      { r with
        readMarker := none
        events := if complete then r.events.filter fun ev => !marked.contains ev else r.events }

/-- The hold expiry of the DONE entry at `i`, of port `p`, reached: deferred when the port's collect marker names it (R138),
otherwise the entry is discarded (R137). -/
def expireHold (p : Port) (i : EntryIx) (s : State) : State :=
  match (s.port p).collect with
  | some m => if m.entry = i then s.modPort p fun r => { r with collect := some ⟨i, true⟩ } else discard p i s
  | none => discard p i s

end Sys2Proof.Machine
end

