-- ==== Sys2Proof/Machine/Submit.lean ====
section
/-! DEFINITION. Machine/Submit.lean: what a host asks of one transaction: SUBMIT_READ, SUBMIT_WRITE, CANCEL and QUERY
(sections 8.1, 9.3 and 9.4). -/

namespace Sys2Proof.Machine

/-! ## Submitting -/

/-- The submit checks in their order, for a length that passed or failed its own test and a need (0 for a WRITE): the first
that fails answers the command; when all pass, the tag, the node and the entry to allocate (R165). -/
def submitChecks (p : Port) (tag node : Byte) (lengthOk : Bool) (need : Nat) (s : State) :
    Code ⊕ (Tag × NodeIx × EntryIx) :=
  match tagOf tag with
  | none => .inl .badTag
  | some tag =>
    if (s.tagged p tag).isSome then .inl .tagInUse
    else if lengthOk = false then .inl .badLength
    else
      match nodeOf node with
      | none => .inl .nodeUnknown
      | some n =>
        match s.bound n with
        | none => .inl .nodeUnknown
        | some b =>
          if b.health = .offline then .inl .nodeOffline
          else if s.ceiling p ≤ s.occupancy p then .inl .portLimit
          else
            match s.firstFree with
            | none => .inl .tableFull
            | some i => if s.params.limit < need then .inl .exceedsLimit else .inr (tag, n, i)

/-- The record of an entry at its allocation, in the phase its submit gives it (R5). -/
def newEntry (p : Port) (tag : Tag) (n : NodeIx) (kind : Kind) (addr : Word) (length : Nat) (payload : List Byte)
    (committed : Nat) (phase : Phase) : Entry where
  port := p
  tag := tag
  node := n
  kind := kind
  addr := addr
  length := length
  payload := payload
  committed := committed
  blocks := []
  received := 0
  retries := 0
  flags := ⟨false, false, false⟩
  stamp := 0
  phase := phase

/-- SUBMIT_READ: granted at once when the admission queue is empty and the need fits, otherwise WAITING at the tail of the
queue, answered QUEUED with DELAYED on the port (R8, R28). -/
def submitReadOp (p : Port) (tag node : Byte) (addr len : Word) (s : State) : State × Reply :=
  let length := len.toNat
  let need := blocksFor length
  match submitChecks p tag node (1 ≤ length && length ≤ 256) need s with
  | .inl code => (s, .bare code)
  | .inr (tag, n, i) =>
    if s.admission.isEmpty && fits s need then
      (queueLast n i (s.setEntry i (some (newEntry p tag n .read addr length [] need .ready))), .bare .ok)
    else
      let waiting := s.setEntry i (some (newEntry p tag n .read addr length [] 0 .waiting))
      (raiseOn p .delayed { waiting with admission := waiting.admission ++ [i] }, .bare .queued)

/-- SUBMIT_WRITE: READY at the tail of its node's issue queue, without passing through admission (R8, R29). -/
def submitWriteOp (p : Port) (tag node : Byte) (addr : Word) (payload : List Byte) (s : State) : State × Reply :=
  match submitChecks p tag node (1 ≤ payload.length && payload.length ≤ 64) 0 s with
  | .inl code => (s, .bare code)
  | .inr (tag, n, i) =>
    (queueLast n i (s.setEntry i (some (newEntry p tag n .write addr payload.length payload 0 .ready))), .bare .ok)

/-! ## Cancelling -/

/-- The CANCEL of an open entry: a live seq goes into its node's abandoned set, the entry moves to DONE with CANCELLED, and
admission tests its head when commitment fell or the head left (R143, R144, R145). -/
def cancelEntry (i : EntryIx) (e : Entry) (s : State) : State := retest s (finish .cancelled i (abandonLive e s))

/-- CANCEL on port `p`, answered by the state in which it finds the entry (R142). -/
def cancelOp (p : Port) (tag : Byte) (s : State) : State × Reply :=
  match tagOf tag with
  | none => (s, .bare .badTag)
  | some tag =>
    match s.tagged p tag with
    | none => (s, .bare .notFound)
    | some i =>
      match s.entry i with
      | none => (s, .bare .notFound)
      | some e => if e.phase.isOpen then (cancelEntry i e s, .bare .ok) else (s, .bare .alreadyDone)

/-! ## Asking -/

/-- The issue queue of a node; empty for an ABSENT node. -/
def State.issueQueue (s : State) (n : NodeIx) : List EntryIx :=
  match s.bound n with
  | some b => b.issueQueue
  | none => []

/-- The item of a QUERY answer that depends on the state, as bytes 5 to 10 of its payload (R167, section 11.2). -/
def queryItem (s : State) (i : EntryIx) (e : Entry) : List Byte :=
  let atNode := fun seq : Seq => [0x00, byteOf seq.val] ++ wordBytes e.received ++ [0xFF, 0x00]
  match e.phase with
  | .waiting => [byteOf (position i s.admission), 0xFF, 0x00, 0x00, 0xFF, 0x00]
  | .ready => [byteOf (position i (s.issueQueue e.node)), 0xFF, 0x00, 0x00, 0xFF, 0x00]
  | .issuing seq => atNode seq
  | .issued seq _ _ _ => atNode seq
  | .part seq _ => atNode seq
  | .done status _ =>
    [byteOf (position i (s.port e.port).completion), 0xFF]
      ++ wordBytes (e.delivered status)
      ++ [status.byte, status.errorByte]

/-- The QUERY payload (section 11.2). -/
def queryBytes (s : State) (i : EntryIx) (e : Entry) : List Byte :=
  [e.phase.byte, e.kind.byte, byteOf e.node.val, byteOf e.retries, e.flags.byte] ++ queryItem s i e

/-- QUERY on port `p`; it changes nothing (R167). -/
def queryOp (p : Port) (tag : Byte) (s : State) : State × Reply :=
  match tagOf tag with
  | none => (s, .bare .badTag)
  | some tag =>
    match s.tagged p tag with
    | none => (s, .bare .notFound)
    | some i =>
      match s.entry i with
      | none => (s, .bare .notFound)
      | some e => (s, ⟨.ok, queryBytes s i e⟩)

end Sys2Proof.Machine
end

