-- ==== Sys2Proof/Machine/HostPort.lean ====
section
/-! DEFINITION. Machine/HostPort.lean: the host port as a machine: its receiver, the judgement of a command frame, the
response, and what chip select does (sections 9.1 and 9.2). -/

namespace Sys2Proof.Machine

/-! ## The response -/

/-- The response frame formed at execution: the receiver is in TURNAROUND, with no turnaround byte clocked (R158, R162). -/
def respond (p : Port) (reply : Reply) (s : State) : State :=
  s.modPort p fun r => { r with receiver := .turnaround 0 reply.frame }

/-- The frames-answered counter of a port one higher (R159). -/
def countAnswered (p : Port) (s : State) : State :=
  s.modPort p fun r => { r with counters := { r.counters with answered := bump r.counters.answered } }

/-- A frame answered FRAME_ERROR or UNKNOWN_COMMAND: the frame-errors counter one higher, nothing else changed (R159). -/
def refuseFrame (p : Port) (code : Code) (s : State) : State :=
  respond p (.bare code)
    (s.modPort p fun r => { r with counters := { r.counters with errors := bump r.counters.errors } })

/-- An executed command: its owner's effect, then the response formed from the state as the command leaves it (R159,
R162). -/
def execute (p : Port) (run : State → State × Reply) (s : State) : State :=
  let out := run s
  respond p out.2 out.1

/-! ## Judging a frame -/

/-- The judgement of a command's frame when its check byte is clocked: a declared length above 68, a check byte that does
not match, a payload length the command does not accept, each answered FRAME_ERROR; otherwise the command is executed. The
frames-answered counter rises first (R159). -/
def judgeCommand (p : Port) (flags : Byte) (c : HostCommand) (check : Byte) (run : State → State × Reply) (s : State) :
    State :=
  let counted := countAnswered p s
  if maxDeclared < c.payload.length then refuseFrame p .frameError counted
  else if check ≠ crc8 (c.bytes flags) then refuseFrame p .frameError counted
  else if parseCommand c.code flags c.payload = .badLength then refuseFrame p .frameError counted
  else execute p run counted

/-- Port `p` once every byte of a command's frame before its check byte has been clocked: chip select is low and the frame
so far is whole (R158). -/
def framed (p : Port) (flags : Byte) (c : HostCommand) (s : State) : State :=
  s.modPort p fun r => { r with csLow := true, receiver := .command (c.bytes flags) }

/-- What a host command of the table does on port `p`: the bytes of its frame that have not been clocked yet are clocked, the
check byte last, and the frame is judged (R158, R159). A window that is not open is opened first; a frame so far that is
not the beginning of this one, a window whose frame has been judged and a window that is ignored leave the part unchanged,
and no command is decoded while RSTN is low (R156; log entry 8). -/
def hostCommand (p : Port) (flags : Byte) (c : HostCommand) (check : Byte) (run : State → State × Reply) (s : State) :
    State :=
  if s.rstnLow then s
  else
    match (s.port p).receiver with
    | .idle => judgeCommand p flags c check run (framed p flags c s)
    | .command soFar =>
      if soFar.isPrefixOf (c.bytes flags) then judgeCommand p flags c check run (framed p flags c s) else s
    | .turnaround .. | .response .. | .trailing | .ignoring => s

/-- What the owner of a command does (section 9.2). -/
def runCommand (p : Port) : HostCommand → State → State × Reply
  | .submitRead tag node addr len => submitReadOp p tag node addr len
  | .submitWrite tag node addr payload => submitWriteOp p tag node addr payload
  | .cancel tag => cancelOp p tag
  | .query tag => queryOp p tag
  | .collect => collectHead p
  | .portStatus clear => portStatusOp p clear
  | .readEvents => readEventsOp p
  | .portReset => portResetOp p
  | .nodeAttach node line drop window mode => nodeAttachOp p node line drop window mode
  | .nodeDetach node => nodeDetachOp p node
  | .nodeReprobe node => nodeReprobeOp p node
  | .nodeStatus node clear => nodeStatusOp node clear
  | .lineStatus line clear => lineStatusOp line clear
  | .setParam number value => setParamOp p number.toNat value.toNat
  | .getParam number => getParamOp p number.toNat
  | .deviceReset => deviceResetOp p
  | .echo payload => echoOp payload

/-- The judgement of the bytes of a frame when its check byte is clocked: declared length, check byte, command code, payload
length, in this order (R159). -/
def judgeFrame (p : Port) (declared : Nat) (bytes : List Byte) (check : Byte) (s : State) : State :=
  let counted := countAnswered p s
  if maxDeclared < declared then refuseFrame p .frameError counted
  else if check ≠ crc8 bytes then refuseFrame p .frameError counted
  else
    match parseCommand (bytes.getD 0 0) (bytes.getD 1 0) (bytes.drop 4) with
    | .unknownCode => refuseFrame p .unknownCommand counted
    | .badLength => refuseFrame p .frameError counted
    | .command c => execute p (runCommand p c) counted

/-- The payload length that the header of a frame declares (section 11.2). -/
def declaredLength (bytes : List Byte) : Nat := (wordOf (bytes.getD 2 0) (bytes.getD 3 0)).toNat

/-- The bytes that stand before the check byte of a frame whose header has been received: the header and the declared
payload, or the header alone when the declared length is above 68 (R158). -/
def bytesBeforeCheck (bytes : List Byte) : Nat :=
  if maxDeclared < declaredLength bytes then 4 else 4 + declaredLength bytes

/-- A byte clocked in full in COMMAND: added to the frame so far, or, in the check byte's place, judged (R158). -/
def commandByte (p : Port) (soFar : List Byte) (byte : Byte) (s : State) : State :=
  if soFar.length < 4 ∨ soFar.length < bytesBeforeCheck soFar then
    s.modPort p fun r => { r with receiver := .command (soFar ++ [byte]) }
  else judgeFrame p (declaredLength soFar) soFar byte s

/-- The receiver after a byte clocked in TURNAROUND, RESPONSE, TRAILING, IGNORING or IDLE: the second turnaround byte ends
TURNAROUND, the response's check byte ends RESPONSE, other bytes are not examined (R158). -/
def Receiver.clocked : Receiver → Receiver
  | .turnaround 0 bytes => .turnaround 1 bytes
  | .turnaround _ bytes => .response bytes 0
  | .response bytes shifted => if shifted + 1 < bytes.length then .response bytes (shifted + 1) else .trailing
  | .idle => .idle
  | .command bytes => .command bytes
  | .trailing => .trailing
  | .ignoring => .ignoring

/-- A byte clocked in full on port `p`; no effect while RSTN is low or chip select is high (R156, R158). -/
def clockByte (p : Port) (byte : Byte) (s : State) : State :=
  if s.rstnLow then s
  else
    match (s.port p).receiver with
    | .command soFar => commandByte p soFar byte s
    | .idle | .turnaround .. | .response .. | .trailing | .ignoring =>
      s.modPort p fun r => { r with receiver := r.receiver.clocked }

/-! ## Chip select -/

/-- Chip select of port `p` falling: an IDLE receiver starts the reception of a command frame; while RSTN is low only the
level of the pin changes (R156, R158). -/
def selectFalls (p : Port) (s : State) : State :=
  s.modPort p fun r =>
    if r.csLow then r
    else { r with csLow := true, receiver := if s.rstnLow then r.receiver else .command [] }

/-- A cut frame: its bytes are discarded, cut frames one higher, HOST_FRAME_ERROR on the port (R160). -/
def cutFrame (p : Port) (s : State) : State :=
  raiseOn p .hostFrameError
    (s.modPort p fun r => { r with counters := { r.counters with cut := bump r.counters.cut } })

/-- The end of a window whose command has executed: the collect and the READ_EVENTS in it are settled by whether the
response's check byte has been clocked out (R133, R134, R161, R176). -/
def endWindow (p : Port) (complete : Bool) (s : State) : State :=
  retest s (settleEvents p complete (settleCollect p complete s))

/-- What the rise of chip select does by the receiver state it finds (R158, R160, R161). -/
def windowCloses (p : Port) (s : State) : Receiver → State
  | .command [] => s
  | .command (_ :: _) => cutFrame p s
  | .turnaround .. => endWindow p false s
  | .response .. => endWindow p false s
  | .trailing => endWindow p true s
  | .idle => s
  | .ignoring => s

/-- Chip select of port `p` rising: the window ends and the receiver is IDLE; while RSTN is low only the level of the pin
changes (R156, R158). -/
def selectRises (p : Port) (s : State) : State :=
  if (s.port p).csLow = false then s
  else
    let raised := s.modPort p fun r => { r with csLow := false }
    if s.rstnLow then raised
    else windowCloses p (raised.modPort p fun r => { r with receiver := .idle }) (s.port p).receiver

end Sys2Proof.Machine
end

