-- ==== Sys2Proof/Machine/HostCommands.lean ====
section
/-! DEFINITION. Machine/HostCommands.lean: the meanings of the seventeen host commands: each is its frame received on its
port (R158, R159), with its owner's effect when the frame is judged intact (section 9.2). -/

namespace Sys2Proof.Machine

/-- The outcome of a step of the NC16. -/
abbrev Result := Host.Outcome State Fault Refusal

/-- SUBMIT_READ (R165). -/
def execSubmitRead (t : Time) (p : Port) (flags tag node : Byte) (addr len : Word) (check : Byte) (s : State) : Result :=
  .next (hostCommand p flags (.submitRead tag node addr len) check (submitReadOp p tag node addr len) (s.advance t))

/-- SUBMIT_WRITE (R165). -/
def execSubmitWrite (t : Time) (p : Port) (flags tag node : Byte) (addr : Word) (payload : List Byte) (check : Byte) (s : State) : Result :=
  .next (hostCommand p flags (.submitWrite tag node addr payload) check (submitWriteOp p tag node addr payload) (s.advance t))

/-- CANCEL (R142). -/
def execCancel (t : Time) (p : Port) (flags tag : Byte) (check : Byte) (s : State) : Result :=
  .next (hostCommand p flags (.cancel tag) check (cancelOp p tag) (s.advance t))

/-- QUERY (R167). -/
def execQuery (t : Time) (p : Port) (flags tag : Byte) (check : Byte) (s : State) : Result :=
  .next (hostCommand p flags (.query tag) check (queryOp p tag) (s.advance t))

/-- COLLECT (R131, R132). -/
def execCollect (t : Time) (p : Port) (flags : Byte) (check : Byte) (s : State) : Result :=
  .next (hostCommand p flags (.collect) check (collectHead p) (s.advance t))

/-- PORT_STATUS (R168). -/
def execPortStatus (t : Time) (p : Port) (flags : Byte) (check : Byte) (s : State) : Result :=
  .next (hostCommand p flags (.portStatus (clearFlag flags)) check (portStatusOp p (clearFlag flags)) (s.advance t))

/-- READ_EVENTS (R176). -/
def execReadEvents (t : Time) (p : Port) (flags : Byte) (check : Byte) (s : State) : Result :=
  .next (hostCommand p flags (.readEvents) check (readEventsOp p) (s.advance t))

/-- PORT_RESET (R148, R149). -/
def execPortReset (t : Time) (p : Port) (flags : Byte) (check : Byte) (s : State) : Result :=
  .next (hostCommand p flags (.portReset) check (portResetOp p) (s.advance t))

/-- NODE_ATTACH (R49). -/
def execNodeAttach (t : Time) (p : Port) (flags node line drop window mode : Byte) (check : Byte) (s : State) : Result :=
  .next (hostCommand p flags (.nodeAttach node line drop window mode) check (nodeAttachOp p node line drop window mode) (s.advance t))

/-- NODE_DETACH (R56, R147). -/
def execNodeDetach (t : Time) (p : Port) (flags node : Byte) (check : Byte) (s : State) : Result :=
  .next (hostCommand p flags (.nodeDetach node) check (nodeDetachOp p node) (s.advance t))

/-- NODE_REPROBE (R57, R58). -/
def execNodeReprobe (t : Time) (p : Port) (flags node : Byte) (check : Byte) (s : State) : Result :=
  .next (hostCommand p flags (.nodeReprobe node) check (nodeReprobeOp p node) (s.advance t))

/-- NODE_STATUS (R169). -/
def execNodeStatus (t : Time) (p : Port) (flags node : Byte) (check : Byte) (s : State) : Result :=
  .next (hostCommand p flags (.nodeStatus node (clearFlag flags)) check (nodeStatusOp node (clearFlag flags)) (s.advance t))

/-- LINE_STATUS (R170). -/
def execLineStatus (t : Time) (p : Port) (flags line : Byte) (check : Byte) (s : State) : Result :=
  .next (hostCommand p flags (.lineStatus line (clearFlag flags)) check (lineStatusOp line (clearFlag flags)) (s.advance t))

/-- SET_PARAM (R172, R182). -/
def execSetParam (t : Time) (p : Port) (flags : Byte) (number value : Word) (check : Byte) (s : State) : Result :=
  .next (hostCommand p flags (.setParam number value) check (setParamOp p number.toNat value.toNat) (s.advance t))

/-- GET_PARAM (R172, R183). -/
def execGetParam (t : Time) (p : Port) (flags : Byte) (number : Word) (check : Byte) (s : State) : Result :=
  .next (hostCommand p flags (.getParam number) check (getParamOp p number.toNat) (s.advance t))

/-- DEVICE_RESET (R152). -/
def execDeviceReset (t : Time) (p : Port) (flags : Byte) (check : Byte) (s : State) : Result :=
  .next (hostCommand p flags (.deviceReset) check (deviceResetOp p) (s.advance t))

/-- ECHO (R172). -/
def execEcho (t : Time) (p : Port) (flags : Byte) (payload : List Byte) (check : Byte) (s : State) : Result :=
  .next (hostCommand p flags (.echo payload) check (echoOp payload) (s.advance t))

end Sys2Proof.Machine
end

