-- ==== Sys2Proof/Machine/PinEvents.lean ====
section
/-! DEFINITION. Machine/PinEvents.lean: the meanings of the pin events: chip select, clocked bytes and RSTN (R156 to
R161). -/

namespace Sys2Proof.Machine

/-- CHIP_SELECT_FALL (R158). -/
def execChipSelectFall (t : Time) (p : Port) (s : State) : Result := .next (selectFalls p (s.advance t))

/-- CHIP_SELECT_RISE (R160, R161). -/
def execChipSelectRise (t : Time) (p : Port) (s : State) : Result := .next (selectRises p (s.advance t))

/-- BYTE_CLOCKED (R158). -/
def execByteClocked (t : Time) (p : Port) (byte : Byte) (s : State) : Result := .next (clockByte p byte (s.advance t))

/-- RSTN_LOW (R156). -/
def execRstnLow (t : Time) (s : State) : Result := .next (holdReset (s.advance t))

/-- RSTN_RISE (R156). -/
def execRstnRise (t : Time) (s : State) : Result := .next (releaseReset (s.advance t))

end Sys2Proof.Machine
end

