-- ==== Sys2Proof/Machine/Replies.lean ====
section
/-! DEFINITION. Machine/Replies.lean: the reply handler: what each valid answer does to the entry it names, the node record
and the read buffer, and how an answer ends its exchange (Chapter 6). -/

namespace Sys2Proof.Machine

/-- The hold back-off, in ticks (R39, R86). -/
def holdBackOff : Nat := 10

/-- The refuse back-off, in ticks (R86, R110). -/
def refuseBackOff : Nat := 20

/-- The poll back-off after a PENDING answer, in ticks: E divided by 4 and rounded down, or 5 if that is larger (R86). -/
def pollBackOff (e : Nat) : Nat := max (e / 4) 5

/-- The pending acknowledgement a handled answer leaves (R63, R120). -/
def leaveAck (n : NodeIx) (ack : Ack) (s : State) : State := s.modBound n fun b => { b with pendingAck := some ack }

/-- A valid answer served first at the node record of its exchange: the silence count is cleared, the last good exchange is
now, the acknowledgement the frame carried is cleared, and a SUSPECT node returns to ONLINE with NODE_CHANGE (R77). -/
def serveNode (x : Exchange) (s : State) : State :=
  match s.bound x.node with
  | none => s
  | some b =>
    let served := s.modBound x.node fun b =>
      { b with
        silence := 0
        lastGood := some s.now
        pendingAck := if x.ack.isSome then none else b.pendingAck }
    match b.health with
    | .suspect _ => raiseBoth .nodeChange (served.modBound x.node fun b => { b with health := .online })
    | .probing _ | .online | .offline => served

/-! ## Answers to a REQUEST -/

/-- Whether a node is PROBING: it was reprobed while its exchange ran (R58). -/
def State.isProbing (s : State) (n : NodeIx) : Bool :=
  (s.bound n).any fun b =>
    match b.health with
    | .probing _ => true
    | .online | .suspect _ | .offline => false

/-- The record of an entry at its ACCEPT: ISSUED, with its accept time, its deadline and its first-poll time half the
estimate ahead (R92, R99). -/
def Entry.acceptedAt (s : State) (seq : Seq) (e : Entry) : Entry :=
  { e with phase := .issued seq (deadlineEnd s e.node) (s.now + ticks (s.estimate e.node / 2)) s.now }

/-- An ACCEPT for an entry still ISSUING while its node is PROBING: the seq is abandoned, a READ returns to READY uncharged,
a WRITE moves to DONE with LOST (R58). -/
def acceptProbing (n : NodeIx) (seq : Seq) (i : EntryIx) (e : Entry) (s : State) : State :=
  match e.kind with
  | .read => returnToReady false n [i] (abandonSeq n seq s)
  | .write => finish .lost i (abandonSeq n seq s)

/-- ACCEPT (R109): the ISSUING entry becomes ISSUED; when it has gone, or the node is PROBING, the seq is abandoned
(R58, R61). In every case the issuing seq ceases to be present. -/
def onAccept (n : NodeIx) (seq : Seq) (s : State) : State :=
  let cleared := clearIssuing n s
  match s.issuingAt n seq with
  | none => abandonSeq n seq cleared
  | some i =>
    match s.entry i with
    | none => abandonSeq n seq cleared
    | some e =>
      if s.isProbing n then acceptProbing n seq i e cleared
      else cleared.setEntry i (some (e.acceptedAt s seq))

/-- The node error code of a REFUSE that ends its entry: F0h for BAD_ADDRESS, F1h for BAD_LENGTH (R111); FULL ends none. -/
def RefuseReason.errorCode : RefuseReason → Option Byte
  | .full => none
  | .badAddress => some 0xF0
  | .badLength => some 0xF1

/-- REFUSE (R110, R111): with FULL the entry still ISSUING returns to READY uncharged and the refuse back-off starts; with
the other reasons it moves to DONE with NODE_ERROR. The seq becomes free. -/
def onRefuse (n : NodeIx) (seq : Seq) (reason : RefuseReason) (s : State) : State :=
  let cleared := clearIssuing n s
  match reason.errorCode with
  | none =>
    let settled :=
      match s.issuingAt n seq with
      | some i => returnToReady false n [i] cleared
      | none => cleared
    settled.modBound n fun b => { b with refuseEnd := some (s.now + ticks refuseBackOff) }
  | some code =>
    match s.issuingAt n seq with
    | some i => finish (.nodeError code) i cleared
    | none => cleared

/-! ## SEGMENT for a live READ -/

/-- The bytes of a segment that still fit below the length (R38). -/
def takenBytes (e : Entry) (data : List Byte) : List Byte := data.take (e.length - e.received)

/-- The new blocks a segment needs (R38). -/
def newBlocks (e : Entry) (data : List Byte) : Nat :=
  blocksFor (e.received + (takenBytes e data).length) - blocksFor e.received

/-- A held segment: the deadline restarts, OVERRUN is raised on the entry's port, the acknowledgement is HOLD at received,
and the hold back-off starts; the entry is otherwise unchanged (R39). DESIGN CHOICE: the deadline restarts with its length as it
stands, which may end before the back-off does, though R43 says that a held entry does not time out (log entry 25). -/
def holdSegment (n : NodeIx) (seq : Seq) (i : EntryIx) (e : Entry) (s : State) : State :=
  leaveAck n ⟨seq, e.received, .hold⟩
    ((raiseOn e.port .overrun (restartDeadline i s)).modBound n fun b =>
      { b with earliestPoll := some (s.now + ticks holdBackOff) })

/-- The record of an entry that has taken a segment: its block list extended, received advanced, and EXCESS set when the
segment carried surplus bytes (R38, R112). -/
def Entry.withData (grown : List BlockIx) (data : List Byte) (e : Entry) : Entry :=
  { e with
    blocks := grown
    received := e.received + (takenBytes e data).length
    flags := { e.flags with excess := e.flags.excess || (takenBytes e data).length < data.length } }

/-- The status of a READ that a taken segment with the last flag completes (R113). -/
def completionStatus (e : Entry) : Status := if e.received = e.length then .ok else .short

/-- The phase of a READ after a taken segment that is not last: PARTIAL, with its deadline restarted (R12, R114). -/
def Phase.continued (d : Time) : Phase → Phase
  | .issued seq _ _ _ => .part seq d
  | .part seq _ => .part seq d
  | .waiting => .waiting
  | .ready => .ready
  | .issuing seq => .issuing seq
  | .done status expiry => .done status expiry

/-- A segment at the resume offset for which the pool has blocks: the bytes are placed, the sample of an ISSUED entry is
taken, the last flag is acted on, and the acknowledgement is ACCEPTED at the new received (R112, R113, R114). -/
def takeSegment (n : NodeIx) (seq : Seq) (i : EntryIx) (e : Entry) (last : Bool) (data : List Byte) (s : State) : State :=
  let grown := e.blocks ++ s.freeBlocks.take (newBlocks e data)
  let filled := e.withData grown data
  let placed :=
    { s with buffer := storeBytes grown e.received (takenBytes e data) s.buffer }.setEntry i (some filled)
  let sampled := sampleOf e placed
  let settled :=
    if last then finish (completionStatus filled) i sampled
    else sampled.setEntry i (some { filled with phase := filled.phase.continued (deadlineEnd sampled n) })
  leaveAck n ⟨seq, filled.received, .accepted⟩ settled

/-- A segment at an offset other than received, a duplicate or a gap: dropped, the deadline restarts, and the
acknowledgement is the resume point (R115). -/
def dropSegment (n : NodeIx) (seq : Seq) (i : EntryIx) (e : Entry) (s : State) : State :=
  leaveAck n ⟨seq, e.received, .accepted⟩ (restartDeadline i s)

/-- SEGMENT for a live READ (R38, R112, R115). -/
def readSegment (n : NodeIx) (seq : Seq) (i : EntryIx) (e : Entry) (last : Bool) (offset : Nat) (data : List Byte)
    (s : State) : State :=
  if offset = e.received then
    if newBlocks e data ≤ s.freeBlocks.length then takeSegment n seq i e last data s else holdSegment n seq i e s
  else dropSegment n seq i e s

/-- SEGMENT for a live WRITE: with the last flag the write is complete; without it the deadline restarts. Data bytes are
dropped and set EXCESS (R116). -/
def writeSegment (n : NodeIx) (seq : Seq) (i : EntryIx) (e : Entry) (last : Bool) (data : List Byte) (s : State) : State :=
  let noted := s.setEntry i (some { e with flags := { e.flags with excess := e.flags.excess || !data.isEmpty } })
  leaveAck n ⟨seq, 0, .accepted⟩ (if last then finish .ok i (sampleOf e noted) else restartDeadline i noted)

/-! ## Late and unexpected answers -/

/-- A SEGMENT or FAULT under an abandoned seq: dropped, the seq is free, the acknowledgement is DISCARD, late replies one
higher, LATE on both ports (R118). -/
def lateAnswer (n : NodeIx) (seq : Seq) (s : State) : State :=
  raiseBoth .late
    (s.modNode n fun r =>
      { r with
        counters := { r.counters with late := bump r.counters.late }
        bound := r.bound.map fun b =>
          { b with abandoned := withoutSeq seq b.abandoned, pendingAck := some ⟨seq, 0, .discard⟩ } })

/-- The unexpected replies counter of a node one higher, and UNEXPECTED on both ports (R119, R123). -/
def noteUnexpected (n : NodeIx) (s : State) : State :=
  raiseBoth .unexpected
    (s.modNode n fun r => { r with counters := { r.counters with unexpected := bump r.counters.unexpected } })

/-- A SEGMENT or FAULT under a foreign seq: dropped, with a DISCARD acknowledgement (R119). -/
def unexpectedAnswer (n : NodeIx) (seq : Seq) (s : State) : State :=
  noteUnexpected n (leaveAck n ⟨seq, 0, .discard⟩ s)

/-- Whether a seq is in a node's abandoned set. -/
def State.isAbandoned (s : State) (n : NodeIx) (seq : Seq) : Bool := (s.bound n).any fun b => b.abandoned.contains seq

/-- An answer under a seq that is not live: LATE when it is abandoned, UNEXPECTED otherwise (R108). -/
def deadAnswer (n : NodeIx) (seq : Seq) (s : State) : State :=
  if s.isAbandoned n seq then lateAnswer n seq s else unexpectedAnswer n seq s

/-- SEGMENT, classed by its seq as the answer finds it (R108). -/
def onSegment (n : NodeIx) (seq : Seq) (last : Bool) (offset : Nat) (data : List Byte) (s : State) : State :=
  match s.liveAt n seq with
  | none => deadAnswer n seq s
  | some i =>
    match s.entry i with
    | none => deadAnswer n seq s
    | some e =>
      match e.kind with
      | .read => readSegment n seq i e last offset data s
      | .write => writeSegment n seq i e last data s

/-- FAULT: a live entry ends with NODE_ERROR and the code, an ISSUED one giving its sample (R117); otherwise LATE or
UNEXPECTED (R118, R119). -/
def onFault (n : NodeIx) (seq : Seq) (code : Byte) (s : State) : State :=
  match s.liveAt n seq with
  | none => deadAnswer n seq s
  | some i =>
    match s.entry i with
    | none => deadAnswer n seq s
    | some e => finish (.nodeError code) i (sampleOf e s)

/-! ## PENDING -/

/-- Whether a lost entry returns to READY: a READ whose retries is below the node's retry limit (R19, R122). -/
def retryable (s : State) (n : NodeIx) (e : Entry) : Bool :=
  e.kind == .read && e.retries < (s.node n).params.retryLimit

/-- The lost entries of a node: those whose live seq the list does not name, in the order in which they last became ISSUING
(R122). -/
def lostEntries (s : State) (n : NodeIx) (listed : List Seq) : List EntryIx :=
  s.byStamp (s.entriesWhere fun e => e.node == n && e.phase.liveSeq.any fun q => !listed.contains q)

/-- The lost entries settled: READs below the retry limit return to READY charged, the others move to DONE with LOST
(R122). -/
def settleLost (n : NodeIx) (listed : List Seq) (s : State) : State :=
  let lost := lostEntries s n listed
  let again := lost.filter fun i => s.holds i (retryable s n)
  let ended := lost.filter fun i => !s.holds i (retryable s n)
  finishAll .lost ended (returnToReady true n again s)

/-- Whether the list names a seq that is neither live nor abandoned, as the answer finds them (R123). -/
def listsForeign (s : State) (n : NodeIx) (listed : List Seq) : Bool :=
  listed.any fun q => !(s.liveSeqs n).contains q && !s.isAbandoned n q

/-- PENDING, reconciled: abandoned seqs not listed leave the set (R121), live seqs not listed are lost (R122), a foreign seq
listed counts one UNEXPECTED (R123), and the poll back-off starts (R124). -/
def onPending (n : NodeIx) (listed : List Seq) (s : State) : State :=
  let drained := s.modBound n fun b => { b with abandoned := b.abandoned.filter fun q => listed.contains q }
  let settled := settleLost n listed drained
  let noted := if listsForeign s n listed then noteUnexpected n settled else settled
  noted.modBound n fun b => { b with earliestPoll := some (s.now + ticks (pollBackOff b.e)) }

/-! ## The end of an exchange with an answer -/

/-- A valid answer given to its handler (R108). -/
def handleAnswer (n : NodeIx) (s : State) : GoodAnswer → State
  | .ident cls window => identify n cls window s
  | .accept seq => onAccept n seq s
  | .refuse seq reason => onRefuse n seq reason s
  | .segment seq last offset data => onSegment n seq last offset data s
  | .pending listed => onPending n listed s
  | .fault seq code => onFault n seq code s

/-- An exchange that ends with a valid answer: counted on the line, served at the node record and handed to its handler
unless it was abandoned, and the line released (R77, R79). -/
def answerValid (l : LineIx) (x : Exchange) (g : GoodAnswer) (s : State) : State :=
  let counted := if x.uncounted then s else countLine l (fun c => { c with exchanges := bump c.exchanges }) s
  releaseLine l (if x.abandoned then counted else handleAnswer x.node (serveNode x counted) g)

/-- An answer that has ended, acted on as it is judged (R75, R76, R77). -/
def endAnswer (l : LineIx) (x : Exchange) (s : State) : Verdict → State
  | .valid g => answerValid l x g s
  | .frameCheck => attemptFails .frameCheck l x s
  | .mismatch => attemptFails .mismatch l x s

/-- The answer to the exchange `x` on line `l` whose bytes received up to now are `answer`: they are kept while it has not
ended, and it is acted on at its end (R74). -/
def takeAnswer (l : LineIx) (x : Exchange) (answer : List LineByte) (s : State) : State :=
  if answer.length < answerEnd answer then setPhase l (.receiving answer s.now) s
  else retest s (endAnswer l x s (judgeReceived x answer))

/-- A byte received on line `l` now: it goes on with the answer that has begun, or begins one. A byte while no attempt awaits
an answer, which a byte behind the end of an answer is too, and a byte that comes too late to belong to the attempt are
discarded (R74). -/
def receiveByte (l : LineIx) (byte : LineByte) (s : State) : State :=
  match listening s l with
  | none => s
  | some (x, soFar, since) => if keepsUp x since 1 s.now then takeAnswer l x (soFar ++ [byte]) s else s

/-- A byte of a command at time `t`, received on line `l` at its own time (R74; log entry 11). -/
def hearByte (t : Time) (l : LineIx) (s : State) (h : HeardByte) : State :=
  receiveByte l h.byte (s.advance (t - h.ago))

/-- The bytes of a command at time `t`, received on line `l` one after the other (R74). -/
def receiveBytes (t : Time) (l : LineIx) (bytes : List HeardByte) (s : State) : State :=
  (bytes.foldl (hearByte t l) s).advance t

/-- The rest of the frame of a node answer received on line `l` with every stop bit, behind the bytes of it that were
received before; now is the time of the answer, when the byte that ends it is received. An answer that does not go on with
those bytes, or comes too late, is none that the line can bring (R74; log entry 11). -/
def receiveAnswer (l : LineIx) (drop : Byte) (a : NodeAnswer) (s : State) : State :=
  match listening s l with
  | none => s
  | some (x, soFar, since) =>
    let whole := (a.frame drop).map cleanByte
    let answer := whole.take (answerEnd whole)
    if soFar.isPrefixOf whole && keepsUp x since (answer.length - soFar.length) s.now then takeAnswer l x answer s else s

/-- A failed attempt of the exchange of line `l`, with what follows from it (R76, R78). -/
def attemptEnds (f : AttemptFault) (l : LineIx) (x : Exchange) (s : State) : State := retest s (attemptFails f l x s)

end Sys2Proof.Machine
end

