-- ==== Sys2Proof/Machine/LineEvents.lean ====
section
/-! DEFINITION. Machine/LineEvents.lean: the meanings of the events on a drop line: the arbiter's grant, the frame sent, the
node answers, and the attempts that end without a valid answer (Chapters 4 and 6). -/

namespace Sys2Proof.Machine

/-- An event at time `t`: nothing but the time passes while RSTN is low (R156). -/
def whenRunning (t : Time) (f : State → State) (s : State) : State :=
  if s.rstnLow then s.advance t else f (s.advance t)

/-- LINE_GRANT (R73, R81). -/
def execLineGrant (t : Time) (l : LineIx) (s : State) : Result := .next (whenRunning t (arbitrate l) s)

/-- FRAME_SENT (R74). -/
def execFrameSent (t : Time) (l : LineIx) (s : State) : Result := .next (whenRunning t (openWindow l) s)

/-- IDENT (R51). -/
def execIdent (t : Time) (l : LineIx) (drop cls window : Byte) (s : State) : Result :=
  .next (whenRunning t (receiveAnswer l drop (.ident cls window)) s)

/-- ACCEPT (R109). -/
def execAccept (t : Time) (l : LineIx) (drop seq : Byte) (s : State) : Result :=
  .next (whenRunning t (receiveAnswer l drop (.accept seq)) s)

/-- REFUSE (R110, R111). -/
def execRefuse (t : Time) (l : LineIx) (drop seq reason : Byte) (s : State) : Result :=
  .next (whenRunning t (receiveAnswer l drop (.refuse seq reason)) s)

/-- SEGMENT (R112 to R116, R118, R119). -/
def execSegment (t : Time) (l : LineIx) (drop seq flags : Byte) (offset : Word) (data : List Byte) (s : State) : Result :=
  .next (whenRunning t (receiveAnswer l drop (.segment seq flags offset data)) s)

/-- PENDING (R121 to R124). -/
def execPending (t : Time) (l : LineIx) (drop : Byte) (seqs : List Byte) (s : State) : Result :=
  .next (whenRunning t (receiveAnswer l drop (.pending seqs)) s)

/-- FAULT (R117 to R119). -/
def execFault (t : Time) (l : LineIx) (drop seq code : Byte) (s : State) : Result :=
  .next (whenRunning t (receiveAnswer l drop (.fault seq code)) s)

/-- INVALID_ANSWER (R74, R75, R76, R189). -/
def execInvalidAnswer (t : Time) (l : LineIx) (bytes : List HeardByte) (s : State) : Result :=
  .next (if s.rstnLow then s.advance t else receiveBytes t l bytes s)

/-- The attempt on line `l` that ends without an answer: now has reached the end of its response window and no byte has been
received (R74, R76; log entry 9). -/
def windowExpires (l : LineIx) (s : State) : State :=
  match listening s l with
  | some (x, [], opened) => if opened + x.window ≤ s.now then attemptEnds .noAnswer l x s else s
  | some (_, _ :: _, _) | none => s

/-- RESPONSE_WINDOW_EXPIRY (R76). -/
def execResponseWindowExpiry (t : Time) (l : LineIx) (s : State) : Result := .next (whenRunning t (windowExpires l) s)

/-- An answer on line `l` ended by a whole response window of quiet after a byte: the last byte received, or one that was
not told of, which came after the window opened (R74, R76; log entry 9). -/
def answerBreaks (l : LineIx) (s : State) : State :=
  match listening s l with
  | none => s
  | some (x, _, since) => if since + x.window ≤ s.now then attemptEnds .frameCheck l x s else s

/-- BROKEN_ANSWER (R74, R76). -/
def execBrokenAnswer (t : Time) (l : LineIx) (s : State) : Result := .next (whenRunning t (answerBreaks l) s)

end Sys2Proof.Machine
end

