-- ==== Sys2Proof/Machine/TimerEvents.lean ====
section
/-! DEFINITION. Machine/TimerEvents.lean: the meanings of the times that the part itself reaches: deadlines, hold expiries
and the times that gate a candidate. Each acts when now, at the time of its command, has reached the time it names; a time
that is not present, or that still lies ahead, is not reached (R21, R24; log entry 9). -/

namespace Sys2Proof.Machine

/-! ## Deadlines -/

/-- The timeout count and the timeouts counter of a node one higher (R65, R66). -/
def countTimeout (n : NodeIx) (s : State) : State :=
  s.modNode n fun r =>
    { r with
      counters := { r.counters with timeouts := bump r.counters.timeouts }
      bound := r.bound.map fun b => { b with timeouts := bumpCount b.timeouts } }

/-- Whether the timeout count of an ONLINE or SUSPECT node is at or above its threshold (R65). -/
def timedOut (s : State) (n : NodeIx) : Bool :=
  match s.bound n with
  | none => false
  | some b =>
    match b.health with
    | .online => (s.node n).params.timeoutThreshold ≤ b.timeouts
    | .suspect _ => (s.node n).params.timeoutThreshold ≤ b.timeouts
    | .probing _ | .offline => false

/-- The expiry of the deadline of the live entry `e` at `i` under `seq`: the seq is abandoned, the timeout count rises, the
entry returns to READY charged or moves to DONE with TIMEOUT, and at the threshold the node enters OFFLINE (R102, R103). DESIGN
CHOICE: of two expiries at one node each puts its entry into the issue or completion queue by itself, so the order in the queue
is that of the expiries, as R13 and R15 have it, though R104 calls the results independent of the order (log entry 26). -/
def expireDeadline (i : EntryIx) (e : Entry) (seq : Seq) (s : State) : State :=
  let counted := countTimeout e.node (abandonSeq e.node seq s)
  let settled :=
    if retryable s e.node e then returnToReady true e.node [i] counted else finish .timeout i counted
  retest s (if timedOut settled e.node then goOffline e.node settled else settled)

/-- The expiry of the entry at `i` when now has reached its deadline; an entry without a deadline does not expire (R101,
R102). DESIGN CHOICE: an entry that is being held expires like any other, as R102 has it, though R43 says that it does not time
out (log entry 25). -/
def deadlineReached (i : EntryIx) (s : State) : State :=
  match s.entry i with
  | none => s
  | some e =>
    match e.phase with
    | .issued seq deadline _ _ => if deadline ≤ s.now then expireDeadline i e seq s else s
    | .part seq deadline => if deadline ≤ s.now then expireDeadline i e seq s else s
    | .waiting | .ready | .issuing _ | .done .. => s

/-- DEADLINE_EXPIRY (R102). -/
def execDeadlineExpiry (t : Time) (i : EntryIx) (s : State) : Result := .next (whenRunning t (deadlineReached i) s)

/-! ## Hold expiries -/

/-- The expiry of the DONE entry at `i` when now has reached its hold expiry; an entry without one never expires (R136, R137,
R138). -/
def holdReached (i : EntryIx) (s : State) : State :=
  match s.entry i with
  | none => s
  | some e =>
    match e.phase with
    | .done _ (some expiry) => if expiry ≤ s.now then retest s (expireHold e.port i s) else s
    | .done _ none | .waiting | .ready | .issuing _ | .issued .. | .part .. => s

/-- HOLD_EXPIRY (R137, R138). -/
def execHoldExpiry (t : Time) (i : EntryIx) (s : State) : Result := .next (whenRunning t (holdReached i) s)

/-! ## Times that gate a candidate

A probe time, a first-poll time and a suspect check time stay present once they are reached: what comes about is that now
has reached them, which `candidate` reads at every search (R82, R83, R84). The grant that may follow is a step of its own,
LINE_GRANT (log entry 10). -/

/-- PROBE_TIME (R83): from the time of this event on, a node whose probe time it has reached presents a RESET candidate. -/
def execProbeTime (t : Time) (_n : NodeIx) (s : State) : Result := .next (whenRunning t id s)

/-- FIRST_POLL_TIME (R99): from the time of this event on, an ISSUED entry whose first-poll time it has reached gives its
node a poll reason; the first-poll time stays present. -/
def execFirstPollTime (t : Time) (_i : EntryIx) (s : State) : Result := .next (whenRunning t id s)

/-- SUSPECT_CHECK_TIME (R52, R84): from the time of this event on, a SUSPECT node whose suspect check time it has reached
presents a suspect check POLL. -/
def execSuspectCheckTime (t : Time) (_n : NodeIx) (s : State) : Result := .next (whenRunning t id s)

/-- The end of a poll or hold back-off when now has reached it: the earliest-poll time ceases to be present (R86). -/
def earliestPollReached (n : NodeIx) (s : State) : State :=
  s.modBound n fun b => { b with earliestPoll := running s.now b.earliestPoll }

/-- EARLIEST_POLL_TIME_END (R86). -/
def execEarliestPollTimeEnd (t : Time) (n : NodeIx) (s : State) : Result := .next (whenRunning t (earliestPollReached n) s)

/-- The end of a refuse back-off when now has reached it: it ceases to be present (R86). -/
def refuseEndReached (n : NodeIx) (s : State) : State :=
  s.modBound n fun b => { b with refuseEnd := running s.now b.refuseEnd }

/-- REFUSE_BACK_OFF_END (R86). -/
def execRefuseBackOffEnd (t : Time) (n : NodeIx) (s : State) : Result := .next (whenRunning t (refuseEndReached n) s)

end Sys2Proof.Machine
end

