-- ==== Sys2Proof/Machine/Dispatch.lean ====
section
/-! DEFINITION. Machine/Dispatch.lean: one arm for each command. -/

namespace Sys2Proof.Machine

/-- What a command does to everything but the queue of waiting commands. -/
def exec (i : Instr) (s : State) : Host.Outcome State Fault Refusal :=
  match i with
  | .submitRead t p flags tag node addr len check => Sys2Proof.Machine.execSubmitRead t p flags tag node addr len check s
  | .submitWrite t p flags tag node addr payload check => Sys2Proof.Machine.execSubmitWrite t p flags tag node addr payload check s
  | .cancel t p flags tag check => Sys2Proof.Machine.execCancel t p flags tag check s
  | .query t p flags tag check => Sys2Proof.Machine.execQuery t p flags tag check s
  | .collect t p flags check => Sys2Proof.Machine.execCollect t p flags check s
  | .portStatus t p flags check => Sys2Proof.Machine.execPortStatus t p flags check s
  | .readEvents t p flags check => Sys2Proof.Machine.execReadEvents t p flags check s
  | .portReset t p flags check => Sys2Proof.Machine.execPortReset t p flags check s
  | .nodeAttach t p flags node line drop window mode check => Sys2Proof.Machine.execNodeAttach t p flags node line drop window mode check s
  | .nodeDetach t p flags node check => Sys2Proof.Machine.execNodeDetach t p flags node check s
  | .nodeReprobe t p flags node check => Sys2Proof.Machine.execNodeReprobe t p flags node check s
  | .nodeStatus t p flags node check => Sys2Proof.Machine.execNodeStatus t p flags node check s
  | .lineStatus t p flags line check => Sys2Proof.Machine.execLineStatus t p flags line check s
  | .setParam t p flags number value check => Sys2Proof.Machine.execSetParam t p flags number value check s
  | .getParam t p flags number check => Sys2Proof.Machine.execGetParam t p flags number check s
  | .deviceReset t p flags check => Sys2Proof.Machine.execDeviceReset t p flags check s
  | .echo t p flags payload check => Sys2Proof.Machine.execEcho t p flags payload check s
  | .chipSelectFall t p => Sys2Proof.Machine.execChipSelectFall t p s
  | .chipSelectRise t p => Sys2Proof.Machine.execChipSelectRise t p s
  | .rstnLow t => Sys2Proof.Machine.execRstnLow t s
  | .rstnRise t => Sys2Proof.Machine.execRstnRise t s
  | .lineGrant t l => Sys2Proof.Machine.execLineGrant t l s
  | .frameSent t l => Sys2Proof.Machine.execFrameSent t l s
  | .ident t l drop cls window => Sys2Proof.Machine.execIdent t l drop cls window s
  | .accept t l drop seq => Sys2Proof.Machine.execAccept t l drop seq s
  | .refuse t l drop seq reason => Sys2Proof.Machine.execRefuse t l drop seq reason s
  | .segment t l drop seq flags offset data => Sys2Proof.Machine.execSegment t l drop seq flags offset data s
  | .pending t l drop seqs => Sys2Proof.Machine.execPending t l drop seqs s
  | .fault t l drop seq code => Sys2Proof.Machine.execFault t l drop seq code s
  | .responseWindowExpiry t l => Sys2Proof.Machine.execResponseWindowExpiry t l s
  | .brokenAnswer t l => Sys2Proof.Machine.execBrokenAnswer t l s
  | .deadlineExpiry t entry => Sys2Proof.Machine.execDeadlineExpiry t entry s
  | .holdExpiry t entry => Sys2Proof.Machine.execHoldExpiry t entry s
  | .probeTime t n => Sys2Proof.Machine.execProbeTime t n s
  | .firstPollTime t entry => Sys2Proof.Machine.execFirstPollTime t entry s
  | .suspectCheckTime t n => Sys2Proof.Machine.execSuspectCheckTime t n s
  | .earliestPollTimeEnd t n => Sys2Proof.Machine.execEarliestPollTimeEnd t n s
  | .refuseBackOffEnd t n => Sys2Proof.Machine.execRefuseBackOffEnd t n s
  | .invalidAnswer t l bytes => Sys2Proof.Machine.execInvalidAnswer t l bytes s
  | .byteClocked t p byte => Sys2Proof.Machine.execByteClocked t p byte s

end Sys2Proof.Machine
end

