-- ==== Sys2Proof/Safety.lean ====
section
/-! DEFINITION. Safety.lean: the laws that the manual says the NC16 keeps, as properties of a state, and the words in which
statements about host frames are made. `Lawful` joins the laws: State.reset meets it and every command keeps it. -/

namespace Sys2Proof.Machine

/-! ## The laws of the table -/

/-- An entry that is DONE. -/
def Phase.isDone : Phase → Bool
  | .done .. => true
  | .waiting | .ready | .issuing _ | .issued .. | .part .. => false

/-- What the kind of an entry fixes of its record: the range of its length, its payload, and for a WRITE that it receives and
retries nothing (R2, R6, R19). -/
def Entry.kindLaw (e : Entry) : Prop :=
  match e.kind with
  | .read => 1 ≤ e.length ∧ e.length ≤ 256 ∧ e.payload = []
  | .write => 1 ≤ e.length ∧ e.length ≤ 64 ∧ e.payload.length = e.length ∧ e.received = 0 ∧ e.retries = 0

/-- What the state of an entry fixes of its record: committed by R25, received by R6, the flags by R17 and R18, and the
kinds that can stand in the state (R8, R12). -/
def Entry.phaseLaw (e : Entry) : Prop :=
  match e.phase with
  | .waiting => e.kind = .read ∧ e.committed = 0 ∧ e.received = 0 ∧ e.flags = ⟨false, false, false⟩
  | .ready => e.committed = e.need ∧ e.received = 0 ∧ e.flags.excess = false ∧ e.flags.repeated = false
  | .issuing _ => e.committed = e.need ∧ e.received = 0 ∧ e.flags = ⟨true, false, false⟩
  | .issued .. => e.committed = e.need ∧ e.received = 0 ∧ e.flags.sent = true ∧ e.flags.repeated = false
  | .part .. => e.kind = .read ∧ e.committed = e.need ∧ e.flags.sent = true ∧ e.flags.repeated = false
  | .done status _ => e.committed = e.blocks.length ∧ (status.delivers = false → e.received = 0)

/-- The record of an entry (R2): received is at most its length (R6), its block list has received/16 blocks, rounded up (R37),
and the fields agree with its kind and its state. -/
def Entry.lawful (e : Entry) : Prop :=
  e.received ≤ e.length ∧ e.blocks.length = blocksFor e.received ∧ e.retries ≤ 3 ∧ e.kindLaw ∧ e.phaseLaw

/-- Every entry's record is lawful, and within a port no two entries share a tag (R3). -/
def TableLaw (s : State) : Prop :=
  (∀ i, ∀ e ∈ s.entry i, e.lawful) ∧
    ∀ i j, ∀ e ∈ s.entry i, ∀ f ∈ s.entry j, e.port = f.port → e.tag = f.tag → i = j

/-- A queue holds exactly the entries that satisfy `f`, each once. -/
def QueueHolds (s : State) (queue : List EntryIx) (f : Entry → Bool) : Prop :=
  queue.Nodup ∧ ∀ i, i ∈ queue ↔ s.holds i f

/-- The table's law on queue membership: the completion queues hold the DONE entries of their ports, the admission queue the
WAITING ones, the issue queue of a node its READY ones (R7). -/
def QueueLaw (s : State) : Prop :=
  (QueueHolds s s.portA.completion fun e => e.port == .a && e.phase.isDone) ∧
    (QueueHolds s s.portB.completion fun e => e.port == .b && e.phase.isDone) ∧
    (QueueHolds s s.admission fun e => e.phase == .waiting) ∧
    ∀ n, ∀ b ∈ s.bound n, QueueHolds s b.issueQueue fun e => e.node == n && e.phase == .ready

/-! ## The laws of admission and the buffer -/

/-- Admission's law on commitment: the committed total never exceeds the limit (R26), and the head of the admission queue is
one that does not fit, since every event that could make it fit tests it (R31). -/
def AdmissionLaw (s : State) : Prop :=
  s.committedTotal ≤ s.params.limit ∧ ∀ i ∈ s.admission.head?, ∀ e ∈ s.entry i, fits s e.need = false

/-- The buffer's law on blocks: no block stands in two places of the block lists (R37), and the cells of the buffer are in
their canonical form. -/
def BufferLaw (s : State) : Prop := s.occupied.Nodup ∧ bufferWf s.buffer

/-! ## The laws of the node table -/

/-- Whether a node can have entries out at it: ONLINE or SUSPECT. -/
def Health.inService : Health → Bool
  | .online | .suspect _ => true
  | .probing _ | .offline => false

/-- The record of a bound node: E and S within 0 to 4095 (R95), the counts within 0 to 15, an advertised window of 1 to 8 and
an IDENT behind every node in service (R46, R59), a next offset of at most 256, and nothing out at an OFFLINE node (R69). -/
def BoundNode.lawful (b : BoundNode) : Prop :=
  b.e ≤ 4095 ∧ b.s ≤ 4095 ∧ b.silence ≤ 15 ∧ b.timeouts ≤ 15 ∧
    (∀ a ∈ b.advert, 1 ≤ a.window ∧ a.window ≤ 8) ∧
    (b.health.inService → b.advert.isSome) ∧
    (∀ a ∈ b.pendingAck, a.nextOffset ≤ 256) ∧
    (b.health = .offline → b.issueQueue = [] ∧ b.issuingSeq = none ∧ b.abandoned = [] ∧ b.pendingAck = none)

/-- The four counters of a node are 16 bits wide (R66). -/
def NodeCounters.lawful (c : NodeCounters) : Prop :=
  c.timeouts ≤ 65535 ∧ c.late ≤ 65535 ∧ c.unexpected ≤ 65535 ∧ c.probes ≤ 65535

/-- The node records are lawful; no two bound nodes hold one (line, drop) position (R49); an open entry's node is in service
or PROBING, and a live entry's node is in service (R69, R102). -/
def NodeLaw (s : State) : Prop :=
  (∀ n, (s.node n).counters.lawful ∧ ∀ b ∈ s.bound n, b.lawful) ∧
    (∀ n m, ∀ b ∈ s.bound n, ∀ c ∈ s.bound m, b.line = c.line → b.drop = c.drop → n = m) ∧
    (∀ i, ∀ e ∈ s.entry i, e.phase.isOpen → ∃ b ∈ s.bound e.node, b.health ≠ .offline) ∧
    ∀ i, ∀ e ∈ s.entry i, e.phase.liveSeq.isSome → ∃ b ∈ s.bound e.node, b.health.inService

/-- The seqs in use at a node: live, issuing and abandoned (R46). -/
def State.usedSeqs (s : State) (n : NodeIx) (b : BoundNode) : List Seq :=
  s.liveSeqs n ++ b.issuingSeq.toList ++ b.abandoned

/-- The node table's laws on sequence numbers: at each node no two of the live seqs, the issuing seq and the abandoned set
share a seq, and together they number at most 8 (R60); an ISSUING entry holds its node's issuing seq, and a node has at most
one of them (R10). -/
def SeqLaw (s : State) : Prop :=
  (∀ n, ∀ b ∈ s.bound n, (s.usedSeqs n b).Nodup ∧ (s.usedSeqs n b).length ≤ 8) ∧
    (∀ i, ∀ e ∈ s.entry i, e.phase.issuingSeq.isSome →
      ∃ b ∈ s.bound e.node, b.issuingSeq = e.phase.issuingSeq) ∧
    ∀ i j, ∀ e ∈ s.entry i, ∀ f ∈ s.entry j,
      e.phase.issuingSeq.isSome → f.phase.issuingSeq.isSome → e.node = f.node → i = j

/-! ## The laws of the lines -/

/-- An exchange that is not abandoned addresses a node bound at its line and drop, in a state in which its outcome can act:
PROBING for a RESET, in service for a POLL, not OFFLINE and with the issuing seq for a REQUEST (R71, R79). An acknowledgement
that the node of a POLL or REQUEST is owed is the one its frame carries (R63, R88). -/
def Exchange.addresses (s : State) (l : LineIx) (x : Exchange) : Prop :=
  ∃ b ∈ s.bound x.node, b.line = l ∧ b.drop = x.drop ∧
    match x.kind with
    | .reset => b.health.same (.probing none)
    | .poll => b.health.inService ∧ ∀ a ∈ b.pendingAck, x.ack = some a
    | .request seq => b.health ≠ .offline ∧ b.issuingSeq = some seq ∧ ∀ a ∈ b.pendingAck, x.ack = some a

/-- An answer that has begun has a byte, and fewer than it ends with (R74). -/
def AttemptPhase.lawful : AttemptPhase → Prop
  | .receiving bytes _ => bytes ≠ [] ∧ bytes.length < answerEnd bytes
  | .sending | .awaiting _ => True

/-- The exchange of a line: an attempt 1 to 3 within a window of 20 to 1000 µs, an answer that has begun not yet ended,
disable pending exactly while the enable is clear, and an address unless it is abandoned (R71, R74, R89, R90). -/
def Exchange.lawful (s : State) (l : LineIx) (pend : Bool) (x : Exchange) : Prop :=
  1 ≤ x.attempt ∧ x.attempt ≤ 3 ∧ 20 ≤ x.window ∧ x.window ≤ 1000 ∧ x.phase.lawful ∧ pend = !s.lineEnabled l ∧
    (x.uncounted → x.abandoned) ∧ (x.abandoned = false → x.addresses s l)

/-- The five counters of a line are 16 bits wide (R71). -/
def LineCounters.lawful (c : LineCounters) : Prop :=
  c.exchanges ≤ 65535 ∧ c.noAnswer ≤ 65535 ∧ c.frameCheck ≤ 65535 ∧ c.mismatch ≤ 65535 ∧ c.failed ≤ 65535

/-- The state of a line: DISABLED only while its enable is clear, with every node bound to it OFFLINE (R89); IDLE only while
its enable is set (R90); EXCHANGING with a lawful exchange. -/
def LineState.lawful (s : State) (l : LineIx) : LineState → Prop
  | .disabled => s.lineEnabled l = false ∧ ∀ n, ∀ b ∈ s.bound n, b.line = l → b.health = .offline
  | .idle => s.lineEnabled l = true
  | .exchanging pend x => x.lawful s l pend

/-- Whether a line state carries an exchange of which `f` holds and which is not abandoned. -/
def LineState.runs (f : Exchange → Bool) : LineState → Bool
  | .exchanging _ x => f x && !x.abandoned
  | .disabled | .idle => false

/-- The line records are lawful; an issuing seq is present only while a REQUEST exchange for it is in flight (R46), and a
PROBING node is without a probe time only while its RESET exchange is in flight (R50). -/
def LineLaw (s : State) : Prop :=
  (∀ l, (s.line l).counters.lawful ∧ (s.line l).state.lawful s l) ∧
    (∀ n, ∀ b ∈ s.bound n, ∀ seq ∈ b.issuingSeq,
      (s.line b.line).state.runs fun x => x.node == n && x.kind == .request seq) ∧
    ∀ n, ∀ b ∈ s.bound n, b.health = .probing none →
      (s.line b.line).state.runs fun x => x.node == n && x.kind == .reset

/-! ## The laws of the ports and the parameters -/

/-- The receiver of a port and the fields that are present in its states (R157, R158). -/
def Receiver.lawful : Receiver → Prop
  | .command bytes => bytes.length ≤ 72
  | .turnaround clocked frame => clocked ≤ 1 ∧ frame ≠ []
  | .response frame shifted => shifted < frame.length
  | .idle | .trailing | .ignoring => True

/-- Whether a command has executed in the window that is open (R161). -/
def Receiver.hasExecuted : Receiver → Bool
  | .turnaround .. | .response .. | .trailing => true
  | .idle | .command _ | .ignoring => false

/-- A host port: its counters are 16 bits wide, its event set and enables hold an event at most once (R174), a read marker or
collect marker stands only while a response is being shifted out, the read marker within the event set (R176) and the collect
marker on the head of the completion queue (R132). -/
def PortRec.lawful (r : PortRec) : Prop :=
  r.receiver.lawful ∧ r.counters.answered ≤ 65535 ∧ r.counters.errors ≤ 65535 ∧ r.counters.cut ≤ 65535 ∧
    r.discards ≤ 65535 ∧ r.params.holdTime ≤ 255 ∧ r.events.Nodup ∧ r.params.enables.Nodup ∧
    (∀ marked ∈ r.readMarker, r.receiver.hasExecuted ∧ ∀ ev ∈ marked, ev ∈ r.events) ∧
    ∀ m ∈ r.collect, r.receiver.hasExecuted ∧ r.completion.head? = some m.entry

/-- The ports are lawful, and while RSTN is high a receiver is IDLE exactly while its chip select is high (R158). -/
def PortLaw (s : State) : Prop :=
  s.portA.lawful ∧ s.portB.lawful ∧
    (s.rstnLow = false → (s.portA.receiver = .idle ↔ s.portA.csLow = false) ∧
      (s.portB.receiver = .idle ↔ s.portB.csLow = false))

/-- The per-node parameters lie within their ranges (R180). -/
def NodeParams.lawful (r : NodeParams) : Prop :=
  1 ≤ r.window ∧ r.window ≤ 8 ∧ 1 ≤ r.fixedDeadline ∧ r.fixedDeadline ≤ 4095 ∧ r.eSeed ≤ 4095 ∧ r.sSeed ≤ 4095 ∧
    1 ≤ r.slowCeiling ∧ r.slowCeiling ≤ 4095 ∧ r.retryLimit ≤ 3 ∧ 1 ≤ r.silenceThreshold ∧ r.silenceThreshold ≤ 15 ∧
    1 ≤ r.timeoutThreshold ∧ r.timeoutThreshold ≤ 15

/-- The global parameters lie within their ranges, and Dmin is at or below Dmax (R178). -/
def GlobalParams.lawful (r : GlobalParams) : Prop :=
  1 ≤ r.limit ∧ r.limit ≤ 1023 ∧ 20 ≤ r.responseWindow ∧ r.responseWindow ≤ 1000 ∧ 1 ≤ r.dmin ∧ r.dmin ≤ r.dmax ∧
    r.dmax ≤ 4095 ∧ r.guard ≤ 255 ∧ 1 ≤ r.probeInterval ∧ r.probeInterval ≤ 255 ∧ 1 ≤ r.suspectInterval ∧
    r.suspectInterval ≤ 255 ∧ 1 ≤ r.ceilingA ∧ r.ceilingA ≤ 48 ∧ 1 ≤ r.ceilingB ∧ r.ceilingB ≤ 48

/-- Every parameter lies within its range (R178, R180, R182). -/
def ParamLaw (s : State) : Prop := s.params.lawful ∧ ∀ n, (s.node n).params.lawful

/-- The laws together: what the manual says of every state of the part. -/
def Lawful (s : State) : Prop :=
  TableLaw s ∧ QueueLaw s ∧ AdmissionLaw s ∧ BufferLaw s ∧ NodeLaw s ∧ SeqLaw s ∧ LineLaw s ∧ PortLaw s ∧ ParamLaw s

/-! ## Host frames -/

/-- A host command of the table as the frame a host sends. -/
structure HostFrame where
  time : Time
  port : Port
  flags : Byte
  command : HostCommand
  check : Byte
  deriving DecidableEq, Repr

/-- The frame of a command that is a host command. -/
def hostFrame : Instr → Option HostFrame
  | .submitRead t p flags tag node addr len check => some ⟨t, p, flags, .submitRead tag node addr len, check⟩
  | .submitWrite t p flags tag node addr payload check => some ⟨t, p, flags, .submitWrite tag node addr payload, check⟩
  | .cancel t p flags tag check => some ⟨t, p, flags, .cancel tag, check⟩
  | .query t p flags tag check => some ⟨t, p, flags, .query tag, check⟩
  | .collect t p flags check => some ⟨t, p, flags, .collect, check⟩
  | .portStatus t p flags check => some ⟨t, p, flags, .portStatus (clearFlag flags), check⟩
  | .readEvents t p flags check => some ⟨t, p, flags, .readEvents, check⟩
  | .portReset t p flags check => some ⟨t, p, flags, .portReset, check⟩
  | .nodeAttach t p flags node line drop window mode check =>
    some ⟨t, p, flags, .nodeAttach node line drop window mode, check⟩
  | .nodeDetach t p flags node check => some ⟨t, p, flags, .nodeDetach node, check⟩
  | .nodeReprobe t p flags node check => some ⟨t, p, flags, .nodeReprobe node, check⟩
  | .nodeStatus t p flags node check => some ⟨t, p, flags, .nodeStatus node (clearFlag flags), check⟩
  | .lineStatus t p flags line check => some ⟨t, p, flags, .lineStatus line (clearFlag flags), check⟩
  | .setParam t p flags number value check => some ⟨t, p, flags, .setParam number value, check⟩
  | .getParam t p flags number check => some ⟨t, p, flags, .getParam number, check⟩
  | .deviceReset t p flags check => some ⟨t, p, flags, .deviceReset, check⟩
  | .echo t p flags payload check => some ⟨t, p, flags, .echo payload, check⟩
  | .chipSelectFall .. | .chipSelectRise .. | .rstnLow .. | .rstnRise .. | .lineGrant .. | .frameSent .. | .ident ..
  | .accept .. | .refuse .. | .segment .. | .pending .. | .fault .. | .responseWindowExpiry .. | .brokenAnswer ..
  | .deadlineExpiry .. | .holdExpiry .. | .probeTime .. | .firstPollTime .. | .suspectCheckTime ..
  | .earliestPollTimeEnd .. | .refuseBackOffEnd .. | .invalidAnswer .. | .byteClocked .. => none

/-- The bytes of a frame before its check byte (section 11.2). -/
def HostFrame.bytes (f : HostFrame) : List Byte := f.command.bytes f.flags

/-- Whether a port can receive a frame: RSTN is high and the receiver is IDLE, or in COMMAND with the beginning of this very
frame (R158; log entry 8). -/
def HostFrame.receivable (f : HostFrame) (s : State) : Prop :=
  s.rstnLow = false ∧
    ((s.port f.port).receiver = .idle ∨ ∃ soFar, (s.port f.port).receiver = .command soFar ∧ soFar <+: f.bytes)

/-- Whether a frame passes the judgement of R159: its payload is no longer than its command accepts and its check byte is
good. -/
def HostFrame.intact (f : HostFrame) : Prop :=
  parseCommand f.command.code f.flags f.command.payload = .command f.command ∧ f.command.payload.length ≤ maxDeclared ∧
    f.check = crc8 f.bytes

/-- A frame that brings the command `c` to a port that can receive it, and that is judged intact (R159). -/
def HostFrame.brings (f : HostFrame) (c : HostCommand) (s : State) : Prop :=
  f.command = c ∧ f.receivable s ∧ f.intact

/-- The part when a frame has been received up to its check byte and counted in frames answered (R158, R159). -/
def HostFrame.received (f : HostFrame) (s : State) : State :=
  countAnswered f.port (framed f.port f.flags f.command (s.advance f.time))

/-- The events by which a host clocks a frame byte by byte, chip select falling first (R158). -/
def HostFrame.clocking (f : HostFrame) : List Instr :=
  .chipSelectFall f.time f.port :: (f.bytes ++ [f.check]).map fun b => .byteClocked f.time f.port b

/-- Commands run one after the other. -/
def execAll : List Instr → State → Host.Outcome State Fault Refusal
  | [], s => .next s
  | i :: rest, s =>
    match exec i s with
    | .next t => execAll rest t
    | .fault r => .fault r
    | .refused r => .refused r

/-- The time a command carries. -/
def commandTime : Instr → Time
  | .submitRead t .. | .submitWrite t .. | .cancel t .. | .query t .. | .collect t .. | .portStatus t ..
  | .readEvents t .. | .portReset t .. | .nodeAttach t .. | .nodeDetach t .. | .nodeReprobe t .. | .nodeStatus t ..
  | .lineStatus t .. | .setParam t .. | .getParam t .. | .deviceReset t .. | .echo t .. | .chipSelectFall t ..
  | .chipSelectRise t .. | .rstnLow t | .rstnRise t | .lineGrant t .. | .frameSent t .. | .ident t .. | .accept t ..
  | .refuse t .. | .segment t .. | .pending t .. | .fault t .. | .responseWindowExpiry t .. | .brokenAnswer t ..
  | .deadlineExpiry t .. | .holdExpiry t .. | .probeTime t .. | .firstPollTime t .. | .suspectCheckTime t ..
  | .earliestPollTimeEnd t .. | .refuseBackOffEnd t .. | .invalidAnswer t .. | .byteClocked t .. => t

/-- The seventeen command codes (section 11.2). -/
def commandCodes : List Byte :=
  [0x10, 0x11, 0x12, 0x13, 0x20, 0x21, 0x22, 0x23, 0x30, 0x31, 0x32, 0x33, 0x34, 0x40, 0x41, 0x50, 0x60]

/-- The payload lengths that each command accepts: code, least and most (section 9.2). -/
def acceptedLengths : List (Byte × Nat × Nat) :=
  [(0x10, 6, 6), (0x11, 4, 68), (0x12, 1, 1), (0x13, 1, 1), (0x20, 0, 0), (0x21, 0, 0), (0x22, 0, 0), (0x23, 0, 0),
    (0x30, 5, 5), (0x31, 1, 1), (0x32, 1, 1), (0x33, 1, 1), (0x34, 1, 1), (0x40, 4, 4), (0x41, 2, 2), (0x50, 0, 0),
    (0x60, 0, 64)]

/-! ## Submits -/

/-- The submit checks of R165 in their order: whether each fails, with the status that then answers the command. -/
def submitTests (s : State) (p : Port) (tag node : Byte) (badLength : Bool) (need : Nat) : List (Bool × Code) :=
  [ (31 < tag.toNat, .badTag),
    (allEntries.any fun i => s.holds i fun e => e.port == p && e.tag.val == tag.toNat, .tagInUse),
    (badLength, .badLength),
    (allNodes.all fun n => n.val != node.toNat || (s.bound n).isNone, .nodeUnknown),
    (allNodes.any fun n => n.val == node.toNat && s.isOffline n, .nodeOffline),
    (s.ceiling p ≤ s.occupancy p, .portLimit),
    (allEntries.all fun i => (s.entry i).isSome, .tableFull),
    (s.params.limit < need, .exceedsLimit) ]

/-- The status of the first test that fails; `none` when all pass. -/
def firstFailure (tests : List (Bool × Code)) : Option Code := (tests.find? fun x => x.1).map fun x => x.2

/-- The entry at `i` is the lowest-numbered FREE one (R5). -/
def State.isFirstFree (s : State) (i : EntryIx) : Prop := s.entry i = none ∧ ∀ j, j < i → s.entry j ≠ none

/-- The entry `e` at `i` is the one that port `p` names by the byte `tag` (R3). -/
def State.names (s : State) (p : Port) (tag : Byte) (i : EntryIx) (e : Entry) : Prop :=
  s.entry i = some e ∧ e.port = p ∧ e.tag.val = tag.toNat

/-- A payload has, at each offset of a table, the bytes the table places there (section 11.2). -/
def laysOut (payload : List Byte) (table : List (Nat × List Byte)) : Prop :=
  ∀ row ∈ table, (payload.drop row.1).take row.2.length = row.2

/-- The checks of NODE_ATTACH on port A in their order: ranges, node, position (R49). -/
def attachTests (s : State) (node line drop window mode : Byte) : List (Bool × Code) :=
  [ (15 < node.toNat || 3 < line.toNat || 3 < drop.toNat || window.toNat == 0 || 8 < window.toNat || 1 < mode.toNat,
      .badParam),
    (allNodes.any fun n => n.val == node.toNat && (s.bound n).isSome, .nodeInUse),
    (allNodes.any fun m => (s.bound m).any fun b => b.line.val == line.toNat && b.drop.val == drop.toNat, .dropInUse) ]

/-! ## Parameters -/

/-- The parameters of a node by their index (section 11.3). -/
def NodeParams.stored (r : NodeParams) : List Nat :=
  [r.window, r.mode.number, r.fixedDeadline, r.eSeed, r.sSeed, r.slowCeiling, r.retryLimit, r.silenceThreshold,
    r.timeoutThreshold]

/-- The parameters as port `p` sees them: each number of section 11.3 with the value in force. -/
def storedValues (s : State) (p : Port) : List (Nat × Nat) :=
  [(0x0001, s.params.limit), (0x0002, s.params.responseWindow), (0x0003, s.params.dmin), (0x0004, s.params.dmax),
    (0x0005, s.params.guard), (0x0006, s.params.probeInterval), (0x0007, s.params.suspectInterval)]
    ++ (allLines.map fun l => (0x0010 + l.val, if s.lineEnabled l then 1 else 0))
    ++ [(0x0018, s.params.ceilingA), (0x0019, s.params.ceilingB), (0x0020, (s.port p).params.holdTime),
      (0x0021, if (s.port p).params.queueAttention then 1 else 0)]
    ++ (allEvents.zipIdx.map fun x => (0x0028 + x.2, if x.1 ∈ (s.port p).params.enables then 1 else 0))
    ++ allNodes.flatMap fun n => (s.node n).params.stored.zipIdx.map fun x => (0x0100 + 0x10 * n.val + x.2, x.1)

/-- The numbers of the per-port parameters: 0020h, 0021h, 0028h to 0030h (section 11.3). -/
def ownNumber (num : Nat) : Bool := num == 0x0020 || num == 0x0021 || (0x0028 ≤ num && num ≤ 0x0030)

/-- The ranges of the node parameters by their index (R180). -/
def nodeRanges : List (Nat × Nat) :=
  [(1, 8), (0, 1), (1, 4095), (0, 4095), (0, 4095), (1, 4095), (0, 3), (1, 15), (1, 15)]

/-- The range of the parameter of a number (R178, R179, R180). -/
def rangeOf (num : Nat) : Nat × Nat :=
  if num = 0x0001 then (1, 1023)
  else if num = 0x0002 then (20, 1000)
  else if num = 0x0003 ∨ num = 0x0004 then (1, 4095)
  else if num = 0x0005 then (0, 255)
  else if num = 0x0006 ∨ num = 0x0007 then (1, 255)
  else if num = 0x0018 ∨ num = 0x0019 then (1, 48)
  else if num = 0x0020 then (0, 255)
  else if num < 0x0100 then (0, 1)
  else nodeRanges.getD (num % 16) (0, 0)

/-- The tests of SET_PARAM in their order: permission, number, range, bound pair, commitment (R182). -/
def setParamTests (s : State) (p : Port) (num v : Nat) : List (Bool × Code) :=
  let known := (storedValues s p).any fun x => x.1 == num
  [ (p == .b && known && !ownNumber num, .notPermitted),
    (!known, .badParam),
    (v < (rangeOf num).1 || (rangeOf num).2 < v, .badParam),
    (num == 0x0003 && s.params.dmax < v || num == 0x0004 && v < s.params.dmin, .badParam),
    (num == 0x0001 && (v < s.committedTotal ||
        allEntries.any fun i => s.holds i fun e => e.phase == .waiting && v < (e.length + 15) / 16), .limitConflict) ]

/-! ## Candidates -/

/-- An entry of the node is ISSUED with a first-poll time that now has reached, or is PARTIAL (R84). -/
def awaitsData (s : State) (n : NodeIx) : Prop :=
  ∃ i, ∃ e ∈ s.entry i, e.node = n ∧
    ((∃ seq deadline first accepted, e.phase = .issued seq deadline first accepted ∧ first ≤ s.now) ∨
      ∃ seq deadline, e.phase = .part seq deadline)

/-- A time that is present and still lies ahead (R86). -/
def stillRuns (now : Time) (field : Option Time) : Prop := ∃ end_ ∈ field, now < end_

/-- The node presents a RESET (R83). -/
def presentsReset (s : State) (b : BoundNode) : Prop := ∃ due, b.health = .probing (some due) ∧ due ≤ s.now

/-- The node presents a POLL: a gated reason while no poll or hold back-off runs, or a suspect check that is due (R84; for a
pending acknowledgement during a poll back-off log entry 24). -/
def presentsPoll (s : State) (n : NodeIx) (b : BoundNode) : Prop :=
  (b.health.inService ∧ ¬stillRuns s.now b.earliestPoll ∧
      (b.pendingAck.isSome ∨ awaitsData s n ∨ b.abandoned ≠ [])) ∨
    ∃ check, b.health = .suspect check ∧ check ≤ s.now

/-- The node presents a REQUEST (R85): it is ONLINE, its issue queue is not empty, no issuing seq is present, its in-use count
is below both its windows, and no refuse back-off runs. -/
def presentsRequest (s : State) (n : NodeIx) (b : BoundNode) : Prop :=
  b.health = .online ∧ b.issueQueue ≠ [] ∧ b.issuingSeq = none ∧ ¬stillRuns s.now b.refuseEnd ∧
    ∃ a ∈ b.advert, (s.usedSeqs n b).length < (s.node n).params.window ∧ (s.usedSeqs n b).length < a.window

/-- The node presents some candidate (R82). -/
def presentsAny (s : State) (n : NodeIx) (b : BoundNode) : Prop :=
  presentsReset s b ∨ presentsPoll s n b ∨ presentsRequest s n b

/-- Node `n` is the one the arbiter of line `l` looks at: the line is IDLE and enabled, and no drop searched before the node's
holds a node that presents a candidate (R81). -/
def reachedBySearch (s : State) (l : LineIx) (n : NodeIx) (b : BoundNode) : Prop :=
  s.bound n = some b ∧ b.line = l ∧ (s.line l).state = .idle ∧
    ∃ before after, searchOrder (s.line l).lastGranted = before ++ b.drop :: after ∧
      ∀ m c, s.bound m = some c → c.line = l → c.drop ∈ before → ¬presentsAny s m c

/-! ## Exchanges -/

/-- Line `l` listens for the answer to the exchange `x`: the bytes `soFar` of it have been received, none while its response
window is open and no answer has begun, and the line has been quiet from `since` (R74). -/
def hears (s : State) (l : LineIx) (x : Exchange) (soFar : List LineByte) (since : Time) : Prop :=
  (∃ pend, (s.line l).state = .exchanging pend x) ∧
    (x.phase = .awaiting since ∧ soFar = [] ∨ x.phase = .receiving soFar since)

/-- The bytes of the frame of a node answer, each with its stop bit (section 11.4). -/
def answerBytes (type drop : Byte) (body : List Byte) : List LineByte :=
  (closed ([type, drop, byteOf body.length] ++ body)).map fun b => ⟨b, true⟩

/-- The answer `whole` to the exchange `x` on line `l` has been received at time `t`: it goes on with the bytes received so
far, and each of the bytes that were missing came within a response window and a byte time of the one before it (R74, R189;
log entry 11). -/
def State.takesWhole (s : State) (t : Time) (l : LineIx) (x : Exchange) (whole : List LineByte) : Prop :=
  ∃ soFar since, hears s l x soFar since ∧ soFar <+: whole ∧ soFar.length < whole.length ∧
    max s.now t < since + (whole.length - soFar.length) * (x.window + 40)

/-- The answer `whole` to the exchange `x` with the node `n`, whose record is `b`, has been received on line `l` at time `t`;
RSTN is high and the exchange is not abandoned, so that its outcome acts (R77, R78). -/
def serves (s : State) (t : Time) (l : LineIx) (x : Exchange) (b : BoundNode) (whole : List LineByte) : Prop :=
  s.rstnLow = false ∧ s.takesWhole t l x whole ∧ x.abandoned = false ∧ s.bound x.node = some b

/-- No acknowledgement is owed to the node `n` (R120). -/
def State.owesNothing (s : State) (n : NodeIx) : Prop := ∀ b ∈ s.bound n, b.pendingAck = none

/-- The part at time `t` after a valid answer to `x` on line `l` has been counted and served at the node's record, before its
handler acts: exchanges one higher, silence count 0, last good exchange now, the acknowledgement the frame carried cleared,
and a SUSPECT node ONLINE again with NODE_CHANGE on both ports (R77). -/
def State.served (s : State) (t : Time) (l : LineIx) (x : Exchange) (b : BoundNode) : State :=
  let counted := (s.advance t).modLine l fun r =>
    { r with counters := { r.counters with exchanges := bump r.counters.exchanges } }
  let record := fun health : Health => counted.modBound x.node fun b =>
    { b with
      silence := 0
      lastGood := some (max s.now t)
      pendingAck := if x.ack.isSome then none else b.pendingAck
      health := health }
  match b.health with
  | .suspect _ => raiseBoth .nodeChange (record .online)
  | other => record other

/-- The part after a failed POLL or REQUEST exchange has been counted on the silence count of its node (R52, R64). -/
def State.silenced (s : State) (n : NodeIx) : State :=
  match s.bound n with
  | none => s
  | some b =>
    let count := min (b.silence + 1) 15
    let counted := s.modBound n fun b => { b with silence := count }
    match b.health with
    | .online =>
      if (s.node n).params.silenceThreshold ≤ count then goOffline n counted
      else
        raiseBoth .nodeChange
          (counted.modBound n fun b => { b with health := .suspect (s.now + 1000 * s.params.suspectInterval) })
    | .suspect _ => if (s.node n).params.silenceThreshold ≤ count then goOffline n counted else counted
    | .probing _ => s
    | .offline => s

/-- The outcome of an exchange that failed after 3 attempts at its node (R11, R50, R61, R78). -/
def State.failedAt (s : State) (x : Exchange) : State :=
  match x.kind with
  | .reset => s.modNode x.node fun r =>
      { r with
        counters := { r.counters with probes := bump r.counters.probes }
        bound := r.bound.map fun b => { b with health := .probing (some (s.now + 1000 * s.params.probeInterval)) } }
  | .poll => s.silenced x.node
  | .request seq =>
    let cleared := s.modBound x.node fun b => { b with issuingSeq := none, abandoned := withSeq seq b.abandoned }
    match s.issuingAt x.node seq with
    | none => cleared.silenced x.node
    | some i =>
      if s.holds i fun e => e.kind == .read then (returnToReady false x.node [i] cleared).silenced x.node
      else (finish .timeout i cleared).silenced x.node

/-- The part at time `t` after an attempt of `x` on line `l` failed on the counter that `count` raises: LINE_ERROR on both
ports; then the same frame again while the attempt was 1 or 2 and the exchange stands, otherwise the exchange has failed and
the line is released (R76, R78, R79). -/
def State.attemptFailed (s : State) (t : Time) (l : LineIx) (pend : Bool) (x : Exchange)
    (count : LineCounters → LineCounters) : State :=
  let counted :=
    if x.uncounted then s.advance t
    else raiseBoth .lineError ((s.advance t).modLine l fun r => { r with counters := count r.counters })
  if x.abandoned = false ∧ x.attempt < 3 then
    counted.modLine l fun r =>
      { r with
        state := .exchanging pend
          { x with attempt := x.attempt + 1, window := s.params.responseWindow, phase := .sending } }
  else
    let ended :=
      if x.uncounted then counted
      else counted.modLine l fun r => { r with counters := { r.counters with failed := bump r.counters.failed } }
    retest s (releaseLine l (if x.abandoned then ended else ended.failedAt x))

/-- The six answers and the bytes of an answer, as commands on line `l` at time `t`. -/
def isAnswer (t : Time) (l : LineIx) : Instr → Prop
  | .ident t' l' .. | .accept t' l' .. | .refuse t' l' .. | .segment t' l' .. | .pending t' l' .. | .fault t' l' ..
  | .invalidAnswer t' l' .. => t' = t ∧ l' = l
  | _ => False

/-- The bytes of the frame in which an answer of the six rows comes (section 11.4). -/
def frameOf : Instr → Option (List LineByte)
  | .ident _ _ drop cls window => some (answerBytes 0x81 drop [cls, window])
  | .accept _ _ drop seq => some (answerBytes 0x82 drop [seq])
  | .refuse _ _ drop seq reason => some (answerBytes 0x83 drop [seq, reason])
  | .segment _ _ drop seq flags offset data => some (answerBytes 0x84 drop ([seq, flags] ++ wordBytes offset.toNat ++ data))
  | .pending _ _ drop seqs => some (answerBytes 0x85 drop seqs)
  | .fault _ _ drop seq code => some (answerBytes 0x86 drop [seq, code])
  | _ => none

/-- The tests that an answer of the six rows with a good check byte passes to be valid: the drop of the exchange, a type that
fits its frame, the seq of a REQUEST, and fields within their formats (R75). -/
def validFor (x : Exchange) : Instr → Prop
  | .ident _ _ drop _ _ => drop.toNat = x.drop.val ∧ x.kind = .reset
  | .accept _ _ drop seq => drop.toNat = x.drop.val ∧ ∃ q, x.kind = .request q ∧ seq.toNat = q.val
  | .refuse _ _ drop seq reason =>
    drop.toNat = x.drop.val ∧ (∃ q, x.kind = .request q ∧ seq.toNat = q.val) ∧ 1 ≤ reason.toNat ∧ reason.toNat ≤ 3
  | .segment _ _ drop seq _ _ data =>
    drop.toNat = x.drop.val ∧ x.kind = .poll ∧ seq.toNat ≤ 15 ∧ data.length ≤ 32
  | .pending _ _ drop seqs =>
    drop.toNat = x.drop.val ∧ x.kind = .poll ∧ seqs.length ≤ 16 ∧ seqs.Nodup ∧ ∀ q ∈ seqs, q.toNat ≤ 15
  | .fault _ _ drop seq _ => drop.toNat = x.drop.val ∧ x.kind = .poll ∧ seq.toNat ≤ 15
  | _ => False

end Sys2Proof.Machine
end

