-- ==== Sys2Proof/WellFormed.lean ====
section
/-! DEFINITION. WellFormed.lean: which terms of `Instr` spell a command that can be sent: every list of bytes fits the
length field that announces it (section 11.2, section 11.4). What a well-formed command says may still be out of range;
the part judges that itself (R188). -/

namespace Sys2Proof

/-- A write payload must leave the declared payload length, four bytes more, within its two-byte field (section 11.2). -/
def writePayloadFits (payload : List Byte) : Bool := payload.length + 4 < 65536

/-- An ECHO payload must fit the two-byte payload length field (section 11.2). -/
def echoPayloadFits (payload : List Byte) : Bool := payload.length < 65536

/-- A SEGMENT's body, four bytes more than its data, must fit the one-byte body length field (section 11.4). -/
def segmentFits (data : List Byte) : Bool := data.length + 4 < 256

/-- A PENDING list must fit the one-byte body length field (section 11.4). -/
def pendingFits (seqs : List Byte) : Bool := seqs.length < 256

/-- Bytes received are at least one, no answer any node may send is longer than 40, and they stand in the order in which they
were received (R74). -/
def answerBytesFit (bytes : List HeardByte) : Bool :=
  1 ≤ bytes.length && bytes.length ≤ 40 && decide (bytes.Pairwise fun a b => b.ago ≤ a.ago)

/-- A command that can be sent. -/
def wellFormed : Instr → Bool
  | .submitWrite _ _ _ _ _ _ payload _ => writePayloadFits payload
  | .echo _ _ _ payload _ => echoPayloadFits payload
  | .segment _ _ _ _ _ _ data => segmentFits data
  | .pending _ _ _ seqs => pendingFits seqs
  | .invalidAnswer _ _ bytes => answerBytesFit bytes
  | .submitRead .. | .cancel .. | .query .. | .collect .. | .portStatus .. | .readEvents .. | .portReset ..
  | .nodeAttach .. | .nodeDetach .. | .nodeReprobe .. | .nodeStatus .. | .lineStatus .. | .setParam .. | .getParam ..
  | .deviceReset .. | .chipSelectFall .. | .chipSelectRise .. | .rstnLow .. | .rstnRise .. | .lineGrant ..
  | .frameSent .. | .ident .. | .accept .. | .refuse .. | .fault .. | .responseWindowExpiry .. | .brokenAnswer ..
  | .deadlineExpiry .. | .holdExpiry .. | .probeTime .. | .firstPollTime .. | .suspectCheckTime ..
  | .earliestPollTimeEnd .. | .refuseBackOffEnd .. | .byteClocked .. => true

end Sys2Proof
end

