-- ==== Sys2Proof/Certificates/Slice0/Obligations.lean ====
section
/-! DEFINITION. Certificates/Slice0/Obligations.lean: the statements for the provers, from the numbered rules of spec/. A
statement about a host command speaks of a frame that brings it (`HostFrame.brings`); `f.received s` is then the part with
the frame counted as answered, and `respond` puts the response frame of a reply into the port's TURNAROUND. A next state is
written out with the updates of Machine/Ops.lean, so that everything it does not name is unchanged. -/

open Sys2Proof Sys2Proof.Machine

/-! ## The machine -/

/-- The command at the front of the queue runs on the state with the queue's rest. On an empty queue the part idles, which is
the model's choice (log entry 1). -/
def Obligations.StepRunsTheFrontCommand : Prop :=
  ∀ (c : Instr) (s : State),
    step { s with pending := c :: s.pending } = exec c s ∧ (s.pending = [] → step s = .next s)

/-- Every command, in every state, answers a next state, in which the time is the command's when that is later and the queue
of waiting commands is as it was. All of it is the model's choice: that every command in every state has an effect, if only
that time passes (log entry 3), the time (log entry 2) and the queue (log entries 20, 21). -/
def Obligations.EveryCommandCompletes : Prop :=
  ∀ (c : Instr) (s : State),
    ∃ t, exec c s = .next t ∧ t.now = max s.now (commandTime c) ∧ t.pending = s.pending

/-- The part right after reset keeps every law of Safety.lean (R1, R26, R37, R46, R71, R127, R157, R178 to R180). -/
def Obligations.ResetIsLawful : Prop := Lawful State.reset

/-- Every step from a lawful state keeps the laws of the table: each record as R2, R6, R17, R18, R19, R25 and R37 have it,
and no tag held twice on a port (R3). -/
def Obligations.StepKeepsTheTableLaw : Prop := ∀ s t : State, Lawful s → step s = .next t → TableLaw t

/-- Every step from a lawful state keeps the law on queue membership (R7). -/
def Obligations.StepKeepsTheQueueLaw : Prop := ∀ s t : State, Lawful s → step s = .next t → QueueLaw t

/-- Every step from a lawful state keeps the committed total within the limit (R26), leaves at the head of the admission
queue only a read that does not fit (R31), keeps each block in one place at most (R37), and keeps the buffer's cells in
their canonical form (the model's own, log entry 6). -/
def Obligations.StepKeepsTheAdmissionAndBufferLaws : Prop :=
  ∀ s t : State, Lawful s → step s = .next t → AdmissionLaw t ∧ BufferLaw t

/-- Every step from a lawful state keeps the node records within their ranges (R46, R64, R65, R66, R95), one node at a
position (R49), and open entries at nodes that are bound and not OFFLINE (R69). -/
def Obligations.StepKeepsTheNodeLaw : Prop := ∀ s t : State, Lawful s → step s = .next t → NodeLaw t

/-- Every step from a lawful state keeps the laws on sequence numbers: no two uses of a seq at a node, and at most 8 in use
(R60), one ISSUING entry of a node at most (R10). -/
def Obligations.StepKeepsTheSeqLaw : Prop := ∀ s t : State, Lawful s → step s = .next t → SeqLaw t

/-- Every step from a lawful state keeps the lines in a state that agrees with their enables (R89, R90), their exchanges
within three attempts (R76), an answer that has begun short of its end (R74), an acknowledgement owed to the node of a POLL
or REQUEST in flight the one its frame carries (R63, R88), and an issuing seq or an absent probe time only beside its
exchange (R46, R50). -/
def Obligations.StepKeepsTheLineLaw : Prop := ∀ s t : State, Lawful s → step s = .next t → LineLaw t

/-- Every step from a lawful state keeps the ports: a receiver IDLE exactly while chip select is high (R158), a read marker
within the event set (R176), a collect marker on the head of the completion queue (R132), counters of 16 bits; and every
parameter in its range, with Dmin at or below Dmax (R178, R179, R180, R182). -/
def Obligations.StepKeepsThePortAndParamLaws : Prop :=
  ∀ s t : State, Lawful s → step s = .next t → PortLaw t ∧ ParamLaw t

/-- While the commitment limit is 96 or less, the occupied blocks are at most the committed total, and a segment at the resume
offset of a live READ finds the blocks it needs, so that HOLD does not occur (R42). -/
def Obligations.NoHoldWithinTheBuffer : Prop :=
  ∀ (s : State) (i : EntryIx) (e : Entry) (data : List Byte),
    Lawful s → s.params.limit ≤ 96 → s.entry i = some e → e.kind = .read → e.phase.liveSeq.isSome →
      s.occupied.length ≤ s.committedTotal ∧ newBlocks e data ≤ s.freeBlocks.length

/-! ## The host port -/

/-- Clocking a command's frame byte by byte into an idle port, chip select falling first and the check byte last, comes to
the same state as the command's row of the table does at once (R158, R159). That the row stands for a whole frame is the
model's choice (log entry 8). -/
def Obligations.ByteByByteIsTheCommand : Prop :=
  ∀ (i : Instr) (f : HostFrame) (s : State),
    hostFrame i = some f → f.command.payload.length < 65536 → s.rstnLow = false →
      (s.port f.port).receiver = .idle → (s.port f.port).csLow = false →
        execAll f.clocking s = exec i s

/-- A frame is judged when its check byte is clocked: a declared length above 68 is answered FRAME_ERROR with the byte in the
check byte's place not compared, whatever the code; then a check byte that does not match FRAME_ERROR; then a code that
names no command UNKNOWN_COMMAND; then a declared length that the command does not accept FRAME_ERROR. Frames answered and
frame errors rise by one, and no other state of the part changes (R158, R159, section 9.2). A row of the table whose frame is
not intact is answered FRAME_ERROR likewise; that the row stands for a whole frame is the model's choice (log entry 8). -/
def Obligations.BadFramesAreRefused : Prop :=
  (∀ (i : Instr) (f : HostFrame) (s : State),
    hostFrame i = some f → f.receivable s → ¬f.intact →
      exec i s = .next ((s.advance f.time).modPort f.port fun r =>
        { r with
          csLow := true
          receiver := .turnaround 0 (Reply.frame ⟨.frameError, []⟩)
          counters := { r.counters with answered := bump r.counters.answered, errors := bump r.counters.errors } })) ∧
  ∀ (t : Time) (p : Port) (code flags hi lo byte : Byte) (payload : List Byte) (s : State),
    s.rstnLow = false → (s.port p).receiver = .command ([code, flags, hi, lo] ++ payload) →
      (let declared := hi.toNat * 256 + lo.toNat
      let refused := fun answer : Code =>
        exec (.byteClocked t p byte) s = .next ((s.advance t).modPort p fun r =>
          { r with
            receiver := .turnaround 0 (Reply.frame ⟨answer, []⟩)
            counters := { r.counters with answered := bump r.counters.answered, errors := bump r.counters.errors } })
      (68 < declared → payload = [] → refused .frameError) ∧
      (declared ≤ 68 → payload.length = declared →
        let good : Prop := byte = crc8 ([code, flags, hi, lo] ++ payload)
        (¬good → refused .frameError) ∧
        (good → code ∉ commandCodes → refused .unknownCommand) ∧
        ∀ least most, (code, least, most) ∈ acceptedLengths → good → (declared < least ∨ most < declared) →
          refused .frameError))

/-- While RSTN is low, no command is decoded and no grant, expiry or discard takes place: time passes, and of the pins only
the level of chip select is followed, which is the model's choice (R156; log entry 13). -/
def Obligations.NothingActsWhileRstnIsLow : Prop :=
  ∀ (c : Instr) (s : State), s.rstnLow = true →
    match c with
    | .rstnLow _ | .rstnRise _ => True
    | .chipSelectFall t p => exec c s = .next ((s.advance t).modPort p fun r => { r with csLow := true })
    | .chipSelectRise t p => exec c s = .next ((s.advance t).modPort p fun r => { r with csLow := false })
    | _ => exec c s = .next (s.advance (commandTime c))

/-- A frame cut by chip select rising is discarded: its port's cut frames rise by one and HOST_FRAME_ERROR joins that port's
events. With no byte clocked the frame is not cut, and nothing but the receiver moves. Neither is a window cut that RSTN
going low cut short (R160). -/
def Obligations.CutFrameIsCounted : Prop :=
  (∀ (t : Time) (p : Port) (b : Byte) (rest : List Byte) (s : State),
    s.rstnLow = false → (s.port p).csLow = true → (s.port p).receiver = .command (b :: rest) →
      exec (.chipSelectRise t p) s = .next ((s.advance t).modPort p fun r =>
        { r with
          csLow := false
          receiver := .idle
          counters := { r.counters with cut := bump r.counters.cut }
          events := withEvent .hostFrameError r.events
          readMarker := r.readMarker.map (withoutEvent .hostFrameError) })) ∧
  (∀ (t : Time) (p : Port) (s : State),
    s.rstnLow = false → (s.port p).csLow = true → (s.port p).receiver = .command [] →
      exec (.chipSelectRise t p) s = .next ((s.advance t).modPort p fun r =>
        { r with csLow := false, receiver := .idle })) ∧
  ∀ (t₁ t₂ t₃ : Time) (p : Port) (s : State),
    ∃ u v w, exec (.rstnLow t₁) s = .next u ∧ exec (.rstnRise t₂) u = .next v ∧ exec (.chipSelectRise t₃ p) v = .next w ∧
      (w.port p).receiver = .idle ∧ (w.port p).counters.cut = 0 ∧ (w.port p).events = []

/-- The receiver on chip select falling and on a byte clocked in any place but the check byte's, with the byte the port shifts
out meanwhile: 00h, or in RESPONSE the next byte of the response (R158). -/
def Obligations.ReceiverMoves : Prop :=
  (∀ (t : Time) (p : Port) (s : State), s.rstnLow = false → (s.port p).csLow = false →
    exec (.chipSelectFall t p) s = .next ((s.advance t).modPort p fun r =>
      { r with csLow := true, receiver := .command [] })) ∧
  (∀ (t : Time) (p : Port) (byte : Byte) (soFar : List Byte) (s : State), s.rstnLow = false →
    (s.port p).receiver = .command soFar →
      (soFar.length < 4 ∨ (declaredLength soFar ≤ 68 ∧ soFar.length < 4 + declaredLength soFar)) →
        exec (.byteClocked t p byte) s = .next ((s.advance t).modPort p fun r =>
          { r with receiver := .command (soFar ++ [byte]) })) ∧
  (∀ (t : Time) (p : Port) (byte : Byte) (s : State), s.rstnLow = false → ((s.port p).receiver.hasExecuted ∨ (s.port p).receiver = .ignoring) →
    exec (.byteClocked t p byte) s = .next ((s.advance t).modPort p fun r =>
      { r with
        receiver :=
          match r.receiver with
          | .turnaround clocked response => if clocked = 0 then .turnaround 1 response else .response response 0
          | .response response shifted =>
            if shifted + 1 < response.length then .response response (shifted + 1) else .trailing
          | other => other })) ∧
  ∀ (p : Port) (s : State), s.rstnLow = false → (s.port p).csLow = true →
    dataOut s p =
      match (s.port p).receiver with
      | .response response shifted => some (response.getD shifted 0)
      | _ => some 0

/-- Chip select rising after a command has executed. When the response has been shifted out up to its check byte, the marked
record leaves the head of the completion queue and its entry is FREE, and the events still in the read marker leave the set.
Otherwise the event set stays and the marked entry stays at the head with REPEATED set, or, when its hold expiry was
deferred, is discarded with the discard counter one higher and DISCARDED raised. Both markers are gone, and admission tests
its head when an entry was freed (R133, R134, R137, R161, R176). -/
def Obligations.WindowEndSettles : Prop :=
  ∀ (t : Time) (p : Port) (s : State), Lawful s → s.rstnLow = false →
    ((s.port p).receiver = .trailing → exec (.chipSelectRise t p) s = .next
      (let raised := (s.advance t).modPort p fun r =>
        { r with
          csLow := false
          receiver := .idle
          collect := none
          readMarker := none
          events := r.events.filter fun ev => !(r.readMarker.getD []).contains ev }
      match (s.port p).collect with
      | none => raised
      | some m =>
        retest s ((raised.setEntry m.entry none).modPort p fun r => { r with completion := r.completion.tail }))) ∧
    ((s.port p).receiver.hasExecuted → (s.port p).receiver ≠ .trailing → exec (.chipSelectRise t p) s = .next
      (let raised := (s.advance t).modPort p fun r =>
        { r with csLow := false, receiver := .idle, collect := none, readMarker := none }
      match (s.port p).collect with
      | none => raised
      | some m =>
        if m.deferred then
          retest s ((raised.setEntry m.entry none).modPort p fun r =>
            { r with
              completion := r.completion.tail
              discards := bump r.discards
              events := withEvent .discarded r.events })
        else raised.modEntry m.entry fun e => { e with flags := { e.flags with repeated := true } }))

/-! ## Transactions -/

/-- A submit is answered by the first of the eight checks that fails, in the order of R165, and takes no entry (R5, R165). -/
def Obligations.SubmitChecksDecideInOrder : Prop :=
  (∀ (f : HostFrame) (tag node : Byte) (addr len : Word) (code : Code) (s : State),
    f.brings (.submitRead tag node addr len) s →
      firstFailure (submitTests s f.port tag node (len.toNat = 0 ∨ 256 < len.toNat) ((len.toNat + 15) / 16)) = some code →
        exec (.submitRead f.time f.port f.flags tag node addr len f.check) s =
          .next (respond f.port ⟨code, []⟩ (f.received s))) ∧
  ∀ (f : HostFrame) (tag node : Byte) (addr : Word) (payload : List Byte) (code : Code) (s : State),
    f.brings (.submitWrite tag node addr payload) s →
      firstFailure (submitTests s f.port tag node (payload = []) 0) = some code →
        exec (.submitWrite f.time f.port f.flags tag node addr payload f.check) s =
          .next (respond f.port ⟨code, []⟩ (f.received s))

/-- A submit whose checks all pass takes the lowest-numbered FREE entry. A read is READY at the tail of its node's issue queue
with its need committed when the admission queue is empty and the need fits, answered OK; otherwise WAITING at the tail of the
admission queue, answered QUEUED with DELAYED on the port. A write is READY at the tail of its node's issue queue with no
commitment, whatever stands in the admission queue, answered OK (R5, R8, R28, R29, R165). -/
def Obligations.SubmitIsAccepted : Prop :=
  ∀ (f : HostFrame) (tag node : Byte) (addr : Word) (k : Tag) (n : NodeIx) (i : EntryIx) (s : State),
    k.val = tag.toNat → n.val = node.toNat → s.isFirstFree i →
    (let new := fun (kind : Kind) (length : Nat) (payload : List Byte) (committed : Nat) (phase : Phase) =>
      some (α := Entry)
        { port := f.port, tag := k, node := n, kind := kind, addr := addr, length := length, payload := payload
          committed := committed, blocks := [], received := 0, retries := 0, flags := ⟨false, false, false⟩, stamp := 0
          phase := phase }
    (∀ len : Word, f.brings (.submitRead tag node addr len) s →
      firstFailure (submitTests s f.port tag node (len.toNat = 0 ∨ 256 < len.toNat) ((len.toNat + 15) / 16)) = none →
        exec (.submitRead f.time f.port f.flags tag node addr len f.check) s = .next
          (let need := (len.toNat + 15) / 16
          if s.admission = [] ∧ s.committedTotal + need ≤ s.params.limit then
            respond f.port ⟨.ok, []⟩
              (((f.received s).setEntry i (new .read len.toNat [] need .ready)).modBound n fun b =>
                { b with issueQueue := b.issueQueue ++ [i] })
          else
            respond f.port ⟨.queued, []⟩
              (raiseOn f.port .delayed
                { (f.received s).setEntry i (new .read len.toNat [] 0 .waiting) with
                  admission := s.admission ++ [i] }))) ∧
    ∀ payload : List Byte, f.brings (.submitWrite tag node addr payload) s →
      firstFailure (submitTests s f.port tag node (payload = []) 0) = none →
        exec (.submitWrite f.time f.port f.flags tag node addr payload f.check) s = .next
          (respond f.port ⟨.ok, []⟩
            (((f.received s).setEntry i (new .write payload.length payload 0 .ready)).modBound n fun b =>
              { b with issueQueue := b.issueQueue ++ [i] })))

/-- CANCEL answers by what its tag names: BAD_TAG above 31, NOT_FOUND for a tag no entry of the port holds, ALREADY_DONE for a
DONE entry, and OK for an open one, which moves to DONE with CANCELLED after its live seq, if it has one, has joined its
node's abandoned set; then admission tests its head (R3, R142, R143, R144, R145). -/
def Obligations.CancelAnswersByState : Prop :=
  ∀ (f : HostFrame) (tag : Byte) (s : State), Lawful s → f.brings (.cancel tag) s →
    (31 < tag.toNat →
      exec (.cancel f.time f.port f.flags tag f.check) s = .next (respond f.port ⟨.badTag, []⟩ (f.received s))) ∧
    (tag.toNat ≤ 31 → (∀ i e, ¬s.names f.port tag i e) →
      exec (.cancel f.time f.port f.flags tag f.check) s = .next (respond f.port ⟨.notFound, []⟩ (f.received s))) ∧
    ∀ i e, s.names f.port tag i e →
      exec (.cancel f.time f.port f.flags tag f.check) s = .next
        (if e.phase.isDone then respond f.port ⟨.alreadyDone, []⟩ (f.received s)
        else
          respond f.port ⟨.ok, []⟩
            (retest s (finish .cancelled i
              (match e.phase.liveSeq with
              | some seq => (f.received s).modBound e.node fun b => { b with abandoned := withSeq seq b.abandoned }
              | none => f.received s))))

/-- QUERY changes nothing and answers by what its tag names: BAD_TAG above 31, NOT_FOUND for a tag no entry of the port holds,
otherwise OK with 11 bytes: state, kind, node, retries and flags, then the entry's place in its queue while it stands in one,
its seq and received while it is at its node, its delivered length, status and error code when it is DONE (R167, section
11.2). -/
def Obligations.QueryReportsTheEntry : Prop :=
  ∀ (f : HostFrame) (tag : Byte) (s : State), Lawful s → f.brings (.query tag) s →
    (31 < tag.toNat →
      exec (.query f.time f.port f.flags tag f.check) s = .next (respond f.port ⟨.badTag, []⟩ (f.received s))) ∧
    (tag.toNat ≤ 31 → (∀ i e, ¬s.names f.port tag i e) →
      exec (.query f.time f.port f.flags tag f.check) s = .next (respond f.port ⟨.notFound, []⟩ (f.received s))) ∧
    ∀ i e, s.names f.port tag i e → ∃ payload,
      exec (.query f.time f.port f.flags tag f.check) s = .next (respond f.port ⟨.ok, payload⟩ (f.received s)) ∧
      payload.length = 11 ∧
      laysOut payload [(1, [e.kind.byte]), (2, [byteOf e.node.val]), (3, [byteOf e.retries]), (4, [e.flags.byte])] ∧
      match e.phase with
      | .waiting => ∀ k, s.admission[k]? = some i →
          laysOut payload [(0, [0x01]), (5, [byteOf k, 0xFF, 0x00, 0x00, 0xFF, 0x00])]
      | .ready => ∀ k b, s.bound e.node = some b → b.issueQueue[k]? = some i →
          laysOut payload [(0, [0x02]), (5, [byteOf k, 0xFF, 0x00, 0x00, 0xFF, 0x00])]
      | .issuing seq =>
          laysOut payload [(0, [0x03]), (5, [0x00, byteOf seq.val]), (7, wordBytes e.received), (9, [0xFF, 0x00])]
      | .issued seq _ _ _ =>
          laysOut payload [(0, [0x04]), (5, [0x00, byteOf seq.val]), (7, wordBytes e.received), (9, [0xFF, 0x00])]
      | .part seq _ =>
          laysOut payload [(0, [0x05]), (5, [0x00, byteOf seq.val]), (7, wordBytes e.received), (9, [0xFF, 0x00])]
      | .done status _ => ∀ k, (s.port f.port).completion[k]? = some i →
          laysOut payload [(0, [0x06]), (5, [byteOf k, 0xFF]),
            (7, wordBytes (if e.kind = .read ∧ status.delivers then e.received else 0)), (9, [status.byte]),
            (10, [match status with
              | .nodeError code => code
              | _ => 0x00])]

/-! ## Completion -/

/-- COLLECT on an empty queue is answered EMPTY and changes nothing; otherwise OK with the head's record and its delivered
bytes, byte k from block k/16 of its block list, and the collect marker is set on the head with the deferred mark clear
(R129, R130, R131, R132). -/
def Obligations.CollectDeliversTheHead : Prop :=
  ∀ (f : HostFrame) (s : State), Lawful s → f.brings .collect s →
    ((s.port f.port).completion = [] →
      exec (.collect f.time f.port f.flags f.check) s = .next (respond f.port ⟨.empty, []⟩ (f.received s))) ∧
    ∀ i rest e status expiry, (s.port f.port).completion = i :: rest → s.entry i = some e →
      e.phase = .done status expiry → ∃ payload,
        exec (.collect f.time f.port f.flags f.check) s = .next
          (respond f.port ⟨.ok, payload⟩ ((f.received s).modPort f.port fun r => { r with collect := some ⟨i, false⟩ })) ∧
        (let delivered := if e.kind = .read ∧ status.delivers then e.received else 0
        payload.length = 9 + delivered ∧
        laysOut payload [(0, [byteOf e.tag.val]), (1, [byteOf e.node.val]), (2, [e.kind.byte]), (3, [status.byte]),
          (4, [e.flags.byte]), (5, [byteOf e.retries]), (6, wordBytes delivered),
          (8, [match status with
            | .nodeError code => code
            | _ => 0x00])] ∧
        ∀ k, k < delivered → ∀ block, e.blocks[k / 16]? = some block →
          payload[9 + k]? = some (bufferRead s.buffer (16 * block.val + k % 16)))

/-- HOLD_EXPIRY of a DONE entry whose hold expiry now has reached: the entry of the port's collect marker has its expiry
deferred; any other is discarded, leaving its completion queue at whatever position, with the discard counter one higher,
DISCARDED raised on its port and admission testing its head. An entry without an expiry, or whose expiry lies ahead, stays
(R136, R137, R138); that a time not reached changes nothing is the model's choice (log entry 9). -/
def Obligations.HoldExpiryDiscards : Prop :=
  ∀ (t : Time) (i : EntryIx) (e : Entry) (status : Status) (expiry : Option Time) (s : State),
    Lawful s → s.rstnLow = false → s.entry i = some e → e.phase = .done status expiry →
      exec (.holdExpiry t i) s = .next
        (if ∃ due ∈ expiry, due ≤ max s.now t then
          if ∃ m ∈ (s.port e.port).collect, m.entry = i then
            (s.advance t).modPort e.port fun r => { r with collect := some ⟨i, true⟩ }
          else
            retest s (raiseOn e.port .discarded
              (((s.advance t).setEntry i none).modPort e.port fun r =>
                { r with completion := r.completion.filter fun j => j != i, discards := bump r.discards }))
        else s.advance t)

/-- A port asserts attention exactly when RSTN is high and its completion queue is nonempty with the queue attention enable
set or its event set holds an event whose enable is set; its output is then low. While RSTN is low and after it has risen it
is high (R140, R156, R189). -/
def Obligations.AttentionFollowsTheState : Prop :=
  ∀ (p : Port) (s : State),
    (atnHigh s p = false ↔
      s.rstnLow = false ∧
        (((s.port p).completion ≠ [] ∧ (s.port p).params.queueAttention = true) ∨
          ∃ ev ∈ (s.port p).events, ev ∈ (s.port p).params.enables)) ∧
    ∀ t₁ t₂ : Time, ∃ u v, exec (.rstnLow t₁) s = .next u ∧ exec (.rstnRise t₂) u = .next v ∧
      atnHigh u p = true ∧ atnHigh v p = true

/-! ## Status and events -/

/-- PORT_STATUS answers OK with the port's figures in 14 bytes, its own frame counted; with bit 0 of the flags the discard
counter and the three counters of that port are then 0 (R168, R171, section 11.2). -/
def Obligations.PortStatusReports : Prop :=
  ∀ (f : HostFrame) (s : State), f.brings (.portStatus (f.flags.getLsbD 0)) s → ∃ payload,
    exec (.portStatus f.time f.port f.flags f.check) s = .next
      (respond f.port ⟨.ok, payload⟩
        (if f.flags.getLsbD 0 then
          (f.received s).modPort f.port fun r => { r with discards := 0, counters := ⟨0, 0, 0⟩ }
        else f.received s)) ∧
    payload.length = 14 ∧
    laysOut payload [(0, [byteOf (s.entriesWhere fun e => e.port == f.port).length]), (1, [byteOf (s.ceiling f.port)]),
      (2, [byteOf (s.port f.port).completion.length]), (3, wordBytes (s.port f.port).discards),
      (5, wordBytes s.committedTotal), (7, [byteOf s.occupied.length]),
      (8, wordBytes (bump (s.port f.port).counters.answered)), (10, wordBytes (s.port f.port).counters.errors),
      (12, wordBytes (s.port f.port).counters.cut)]

/-- READ_EVENTS answers OK with the event word, a bit set for each event of the port's set, and sets the read marker to the
set, which does not change (R176, section 11.2). -/
def Obligations.ReadEventsReports : Prop :=
  ∀ (f : HostFrame) (s : State), f.brings .readEvents s → ∃ hi lo,
    exec (.readEvents f.time f.port f.flags f.check) s = .next
      (respond f.port ⟨.ok, [hi, lo]⟩
        ((f.received s).modPort f.port fun r => { r with readMarker := some r.events })) ∧
    ∀ k : Fin 16, (hi ++ lo : BitVec 16).getLsbD k.val = true ↔
      ∃ ev ∈ (s.port f.port).events, allEvents[k.val]? = some ev

/-- NODE_STATUS answers BAD_PARAM for a node above 15, otherwise OK with the 53 bytes of section 11.2: for every node its
state and parameters and counters, for a bound node the items of its record, 00h for what is absent; with bit 0 of the flags
its four counters are then 0 (R169). That the ticks since the last good exchange round down, and that an ABSENT node shows
its configured window, are the model's choice (log entry 17). -/
def Obligations.NodeStatusReports : Prop :=
  ∀ (f : HostFrame) (node : Byte) (s : State), f.brings (.nodeStatus node (f.flags.getLsbD 0)) s →
    (15 < node.toNat →
      exec (.nodeStatus f.time f.port f.flags node f.check) s = .next (respond f.port ⟨.badParam, []⟩ (f.received s))) ∧
    ∀ n : NodeIx, n.val = node.toNat → ∃ payload,
      exec (.nodeStatus f.time f.port f.flags node f.check) s = .next
        (respond f.port ⟨.ok, payload⟩
          (if f.flags.getLsbD 0 then (f.received s).modNode n fun r => { r with counters := ⟨0, 0, 0, 0⟩ }
          else f.received s)) ∧
      payload.length = 53 ∧
      (let r := s.node n
      laysOut payload [(0, [node]), (5, [byteOf r.params.window]), (13, [flagByte r.slow]), (33, [r.params.mode.byte]),
        (34, wordBytes r.params.fixedDeadline), (36, wordBytes r.params.eSeed), (38, wordBytes r.params.sSeed),
        (40, wordBytes r.params.slowCeiling),
        (42, [byteOf r.params.retryLimit, byteOf r.params.silenceThreshold, byteOf r.params.timeoutThreshold]),
        (45, wordBytes r.counters.timeouts), (47, wordBytes r.counters.late), (49, wordBytes r.counters.unexpected),
        (51, wordBytes r.counters.probes)]) ∧
      (s.bound n = none → laysOut payload [(1, List.replicate 4 0x00), (6, List.replicate 7 0x00), (14, List.replicate 19 0x00)]) ∧
      ∀ b, s.bound n = some b →
        (let now := max s.now f.time
        laysOut payload [(3, [byteOf b.line.val, byteOf b.drop.val]), (9, wordBytes b.e), (11, wordBytes b.s),
          (14, [byteOf b.silence, byteOf b.timeouts, byteOf (s.usedSeqs n b).length]),
          (18, wordBytes (seqWord b.abandoned)), (24, [byteOf b.issueQueue.length])] ∧
        (match b.health with
          | .probing (some due) => laysOut payload [(1, [0x01]), (29, wordBytes ((due - now + 9) / 10))]
          | .probing none => laysOut payload [(1, [0x01]), (29, [0x00, 0x00])]
          | .online => laysOut payload [(1, [0x02]), (29, [0x00, 0x00])]
          | .suspect check => laysOut payload [(1, [0x03]), (29, wordBytes ((check - now + 9) / 10))]
          | .offline => laysOut payload [(1, [0x04]), (29, [0x00, 0x00])]) ∧
        (match b.advert with
          | some a => laysOut payload [(6, [byteOf a.window, byteOf (min (s.node n).params.window a.window), a.cls])]
          | none => laysOut payload [(6, [0x00, 0x00, 0x00])]) ∧
        (match b.issuingSeq with
          | some seq => laysOut payload [(17, [byteOf seq.val])]
          | none => laysOut payload [(17, [0x00])]) ∧
        (match b.pendingAck with
          | some a => laysOut payload [(20, [byteOf a.seq.val, a.disposition.byte]), (22, wordBytes a.nextOffset)]
          | none => laysOut payload [(20, [0x00, 0x00, 0x00, 0x00])]) ∧
        (∀ k : Fin 8, (payload.getD 2 0).getLsbD k.val =
          [true, b.advert.isSome, b.issuingSeq.isSome, b.pendingAck.isSome, b.earliestPoll.any (now < ·),
            b.refuseEnd.any (now < ·),
            match b.health with
            | .probing due => due.isSome
            | .suspect _ => true
            | .online | .offline => false,
            b.lastGood.isSome].getD k.val false) ∧
        (match b.earliestPoll with
          | some due => laysOut payload [(25, wordBytes ((due - now + 9) / 10))]
          | none => laysOut payload [(25, [0x00, 0x00])]) ∧
        (match b.refuseEnd with
          | some due => laysOut payload [(27, wordBytes ((due - now + 9) / 10))]
          | none => laysOut payload [(27, [0x00, 0x00])]) ∧
        match b.lastGood with
        | some at_ => laysOut payload [(31, wordBytes (min ((now - at_) / 10) 65535))]
        | none => laysOut payload [(31, [0x00, 0x00])])

/-- LINE_STATUS answers BAD_PARAM for a line above 3, otherwise OK with the 26 bytes of section 11.2, and with bit 0 of the
flags the five counters of the line are then 0 (R170). -/
def Obligations.LineStatusReports : Prop :=
  ∀ (f : HostFrame) (line : Byte) (s : State), Lawful s → f.brings (.lineStatus line (f.flags.getLsbD 0)) s →
    (3 < line.toNat →
      exec (.lineStatus f.time f.port f.flags line f.check) s = .next (respond f.port ⟨.badParam, []⟩ (f.received s))) ∧
    ∀ l : LineIx, l.val = line.toNat → ∃ payload,
      exec (.lineStatus f.time f.port f.flags line f.check) s = .next
        (respond f.port ⟨.ok, payload⟩
          (if f.flags.getLsbD 0 then (f.received s).modLine l fun r => { r with counters := ⟨0, 0, 0, 0, 0⟩ }
          else f.received s)) ∧
      payload.length = 26 ∧
      (let r := s.line l
      laysOut payload [(0, [line]), (2, [if s.lineEnabled l then 0x01 else 0x00]), (4, [byteOf r.lastGranted.val]),
        (16, wordBytes r.counters.exchanges), (18, wordBytes r.counters.noAnswer), (20, wordBytes r.counters.frameCheck),
        (22, wordBytes r.counters.mismatch), (24, wordBytes r.counters.failed)]) ∧
      (∀ d : DropIx,
        (∀ n b, s.bound n = some b → b.line = l → b.drop = d → laysOut payload [(5 + d.val, [byteOf n.val])]) ∧
        ((∀ n b, s.bound n = some b → ¬(b.line = l ∧ b.drop = d)) → laysOut payload [(5 + d.val, [0xFF])])) ∧
      match (s.line l).state with
      | .disabled => laysOut payload [(1, [0x00]), (3, [0x00]), (9, [0x00, 0x00, 0x00, 0x00, 0xFF, 0x00, 0x00])]
      | .idle => laysOut payload [(1, [0x01]), (3, [0x00]), (9, [0x00, 0x00, 0x00, 0x00, 0xFF, 0x00, 0x00])]
      | .exchanging pend x =>
        laysOut payload [(1, [0x02]), (3, [flagByte pend]), (9, [0x01]), (10, [byteOf x.node.val]),
          (11, [byteOf x.drop.val]), (12, [x.kind.byte]),
          (13, [match x.kind with
            | .request seq => byteOf seq.val
            | _ => 0xFF]),
          (14, [byteOf x.attempt]), (15, [flagByte x.abandoned])]

/-- ECHO returns its payload of 0 to 64 bytes unchanged with OK, and changes no state (R172). A response frame, of this command
and of every other, is the status code, the payload length in two bytes with the higher first, the payload, and the check
byte that R187 computes over them: a register of FFh, each byte XORed in and stepped eight times, shifted left and XORed with
1Dh when bit 7 was set. The other codes that frames hold are those of sections 11.2 and 11.4 (R162, R187). -/
def Obligations.EchoReturnsThePayload : Prop :=
  (∀ (f : HostFrame) (payload : List Byte) (s : State), f.brings (.echo payload) s →
    exec (.echo f.time f.port f.flags payload f.check) s = .next (respond f.port ⟨.ok, payload⟩ (f.received s)) ∧
      payload.length ≤ 64) ∧
  (∀ bytes : List Byte, crc8 bytes =
    bytes.foldl
      (fun r b =>
        (List.range 8).foldl (fun r _ => if r.getLsbD 7 then (r <<< 1) ^^^ 0x1D else r <<< 1) (r ^^^ b))
      0xFF) ∧
  (∀ (p : Port) (code : Code) (payload : List Byte) (s : State), ∃ status,
    (code, status) ∈ ([(.ok, 0x00), (.queued, 0x01), (.tagInUse, 0x10), (.badTag, 0x11), (.tableFull, 0x12),
      (.portLimit, 0x13), (.nodeUnknown, 0x14), (.nodeOffline, 0x15), (.badLength, 0x16), (.exceedsLimit, 0x17),
      (.notFound, 0x18), (.alreadyDone, 0x19), (.empty, 0x1A), (.badParam, 0x20), (.limitConflict, 0x21), (.dropInUse, 0x22),
      (.nodeInUse, 0x23), (.notPermitted, 0x24), (.frameError, 0x30), (.unknownCommand, 0x31)] : List (Code × Byte)) ∧
    respond p ⟨code, payload⟩ s = s.modPort p fun r =>
      { r with
        receiver := .turnaround 0
          (let covered := [status, BitVec.ofNat 8 (payload.length / 256), BitVec.ofNat 8 (payload.length % 256)] ++ payload
          covered ++ [crc8 covered]) }) ∧
  [Kind.read, .write].map Kind.byte = [0x00, 0x01] ∧
  (∀ code, [Status.ok, .short, .nodeError code, .timeout, .lost, .nodeOffline, .detached, .cancelled].map Status.byte =
    [0x00, 0x01, 0x02, 0x03, 0x04, 0x05, 0x06, 0x07]) ∧
  (∀ flags : EntryFlags, ∀ k : Fin 8,
    flags.byte.getLsbD k.val = [flags.sent, flags.excess, flags.repeated].getD k.val false) ∧
  [Mode.adaptive, .fixed].map Mode.byte = [0x00, 0x01] ∧
  [Disposition.accepted, .hold, .discard].map Disposition.byte = [0x01, 0x02, 0x03] ∧
  (∀ seq, [FrameKind.reset, .request seq, .poll].map FrameKind.byte = [0x01, 0x02, 0x03]) ∧
  allEvents = [.delayed, .discarded, .overrun, .unexpected, .late, .nodeChange, .nodeSlow, .lineError, .hostFrameError] ∧
  (∀ (seqs : List Seq) (q : Seq), (BitVec.ofNat 16 (seqWord seqs)).getLsbD q.val = true ↔ q ∈ seqs) ∧
  ∀ ack : Ack, ackBytes none = [] ∧ ackBytes (some ack) =
    [BitVec.ofNat 8 ack.seq.val, ack.disposition.byte, BitVec.ofNat 8 (ack.nextOffset / 256),
      BitVec.ofNat 8 (ack.nextOffset % 256)]

/-! ## Resets -/

/-- PORT_RESET frees every entry of its port and no other, in whatever state: they leave every queue, with the order of the
rest kept, and the seqs of the ISSUED and PARTIAL ones join their nodes' abandoned sets. The port's queue, markers, events
and counters are empty, its parameters kept; the other port, the lines and the rest of the nodes stay; then admission tests
its head once (R127, R148, R149, R157). -/
def Obligations.PortResetFlushesThePort : Prop :=
  ∀ (f : HostFrame) (s : State), Lawful s → f.brings .portReset s → ∃ u,
    exec (.portReset f.time f.port f.flags f.check) s = .next (respond f.port ⟨.ok, []⟩ (retest s u)) ∧
    u.now = max s.now f.time ∧ u.rstnLow = s.rstnLow ∧ u.lines = s.lines ∧ u.params = s.params ∧ u.buffer = s.buffer ∧
    u.stamp = s.stamp ∧ u.pending = s.pending ∧
    (∀ i, u.entry i = (s.entry i).filter fun e => e.port != f.port) ∧
    u.admission = s.admission.filter (fun i => s.holds i fun e => e.port != f.port) ∧
    (∀ q, q ≠ f.port → u.port q = s.port q) ∧
    u.port f.port =
      { (f.received s).port f.port with
        events := [], readMarker := none, counters := ⟨0, 0, 0⟩, completion := [], collect := none, discards := 0 } ∧
    ∀ n, (s.bound n = none → u.node n = s.node n) ∧
      ∀ b, s.bound n = some b → ∃ abandoned,
        u.node n = { s.node n with bound := some { b with
          issueQueue := b.issueQueue.filter fun i => s.holds i fun e => e.port != f.port
          abandoned := abandoned } } ∧
        ∀ q, q ∈ abandoned ↔
          q ∈ b.abandoned ∨ ∃ i, ∃ e ∈ s.entry i, e.port = f.port ∧ e.node = n ∧ e.phase.liveSeq = some q

/-- DEVICE_RESET from port A makes every entry FREE and empties every queue, gives every bound node a fresh start with its
binding, parameters and advertisement kept (PROBING and due now on an enabled line, OFFLINE otherwise), abandons every
exchange in flight uncounted, empties both ports' events, markers and counters, and keeps every parameter; it raises no event
(R68, R71, R79, R152). -/
def Obligations.DeviceResetRestartsThePart : Prop :=
  ∀ (f : HostFrame) (s : State), Lawful s → f.port = .a → f.brings .deviceReset s → ∃ u,
    exec (.deviceReset f.time f.port f.flags f.check) s = .next (respond .a ⟨.ok, []⟩ u) ∧
    u.now = max s.now f.time ∧ u.rstnLow = s.rstnLow ∧ u.params = s.params ∧ u.buffer = s.buffer ∧ u.stamp = s.stamp ∧
    u.pending = s.pending ∧ (∀ i, u.entry i = none) ∧ u.admission = [] ∧
    (∀ q, u.port q =
      { (f.received s).port q with
        events := [], readMarker := none, counters := ⟨0, 0, 0⟩, completion := [], collect := none, discards := 0 }) ∧
    (∀ l, u.line l =
      { lastGranted := 3, counters := ⟨0, 0, 0, 0, 0⟩
        state :=
          match (s.line l).state with
          | .exchanging pend x => .exchanging pend { x with abandoned := true, uncounted := true }
          | other => other }) ∧
    ∀ n, u.node n =
      match s.bound n with
      | none => { s.node n with counters := ⟨0, 0, 0, 0⟩ }
      | some b =>
        { params := (s.node n).params, slow := (s.node n).params.slowCeiling < (s.node n).params.eSeed
          counters := ⟨0, 0, 0, 0⟩
          bound := some
            { line := b.line, drop := b.drop, advert := b.advert, issueQueue := [], nextSeq := 0, issuingSeq := none
              abandoned := [], pendingAck := none, e := (s.node n).params.eSeed, s := (s.node n).params.sSeed
              silence := 0, timeouts := 0, earliestPoll := none, refuseEnd := none, lastGood := none
              health := if s.lineEnabled b.line then .probing (some (max s.now f.time)) else .offline } }

/-- RSTN going low puts every block at its power-on values, with a port's receiver ignoring a window that is open; RSTN
rising releases the part, an open window being ignored until chip select rises (R156, R157). The model's choices are these: the
bytes of the buffer stay (log entry 6), the receiver while RSTN is low (log entry 13), the levels of chip select stay, and
RSTN rising while it is high does nothing (log entry 23). -/
def Obligations.RstnResetsThePart : Prop :=
  (∀ (t : Time) (s : State), ∃ u, exec (.rstnLow t) s = .next u ∧
    u = { State.reset with
      now := max s.now t, rstnLow := true, buffer := s.buffer, pending := s.pending, portA := u.portA, portB := u.portB } ∧
    ∀ p, u.port p =
      { State.reset.port p with
        csLow := (s.port p).csLow, receiver := if (s.port p).csLow then .ignoring else .idle }) ∧
  ∀ (t : Time) (s : State), ∃ u, exec (.rstnRise t) s = .next u ∧
    u = { s with now := max s.now t, rstnLow := false, portA := u.portA, portB := u.portB } ∧
    ∀ p, u.port p =
      if s.rstnLow then { s.port p with receiver := if (s.port p).csLow then .ignoring else .idle } else s.port p

/-! ## Node commands and parameters -/

/-- NODE_ATTACH, NODE_DETACH, NODE_REPROBE and DEVICE_RESET on port B, and SET_PARAM there of a global or node parameter, are
answered NOT_PERMITTED whatever else would fail, and change no state but the count of frames answered (R164). -/
def Obligations.PortBIsNotPermitted : Prop :=
  ∀ (i : Instr) (f : HostFrame) (s : State),
    hostFrame i = some f → f.port = .b → f.receivable s → f.intact →
      (match f.command with
        | .nodeAttach .. | .nodeDetach _ | .nodeReprobe _ | .deviceReset => True
        | .setParam num _ => (∃ v, (num.toNat, v) ∈ storedValues s .b) ∧ ownNumber num.toNat = false
        | _ => False) →
        exec i s = .next (respond .b ⟨.notPermitted, []⟩ (f.received s))

/-- NODE_ATTACH from port A is answered by the first of its checks that fails, the record unchanged; when all pass it writes
the binding, the window and the mode and sets up an empty record with E and S seeded, PROBING and due now on an enabled line
and OFFLINE otherwise, and raises NODE_CHANGE on both ports, and NODE_SLOW when the seed is above the slow ceiling (R49,
R95, R96). -/
def Obligations.NodeAttachBindsTheNode : Prop :=
  ∀ (f : HostFrame) (node line drop window mode : Byte) (s : State),
    f.port = .a → f.brings (.nodeAttach node line drop window mode) s →
    (∀ code, firstFailure (attachTests s node line drop window mode) = some code →
      exec (.nodeAttach f.time f.port f.flags node line drop window mode f.check) s =
        .next (respond .a ⟨code, []⟩ (f.received s))) ∧
    ∀ (n : NodeIx) (l : LineIx) (d : DropIx), firstFailure (attachTests s node line drop window mode) = none →
      n.val = node.toNat → l.val = line.toNat → d.val = drop.toNat →
      exec (.nodeAttach f.time f.port f.flags node line drop window mode f.check) s = .next (respond .a ⟨.ok, []⟩
        (let old := (s.node n).params
        let bound := (f.received s).setNode n
          { params := { old with window := window.toNat, mode := if mode = 0 then .adaptive else .fixed }
            slow := old.slowCeiling < old.eSeed
            counters := ⟨0, 0, 0, 0⟩
            bound := some
              { line := l, drop := d, advert := none, issueQueue := [], nextSeq := 0, issuingSeq := none, abandoned := []
                pendingAck := none, e := old.eSeed, s := old.sSeed, silence := 0, timeouts := 0, earliestPoll := none
                refuseEnd := none, lastGood := none
                health := if s.lineEnabled l then .probing (some (max s.now f.time)) else .offline } }
        raiseBoth .nodeChange (if old.slowCeiling < old.eSeed then raiseBoth .nodeSlow bound else bound)))

/-- NODE_DETACH from port A answers BAD_PARAM above 15 and NODE_UNKNOWN for an ABSENT node; a bound one is detached: its open
entries move to DONE with DETACHED in the order of R55, its exchange in flight is abandoned, its record is ABSENT with its
parameters kept, NODE_CHANGE is raised on both ports, and admission tests its head once (R56, R79, R147). -/
def Obligations.NodeDetachUnbindsTheNode : Prop :=
  ∀ (f : HostFrame) (node : Byte) (s : State), f.port = .a → f.brings (.nodeDetach node) s →
    (15 < node.toNat →
      exec (.nodeDetach f.time f.port f.flags node f.check) s = .next (respond .a ⟨.badParam, []⟩ (f.received s))) ∧
    ∀ n : NodeIx, n.val = node.toNat →
      exec (.nodeDetach f.time f.port f.flags node f.check) s = .next
        (match s.bound n with
        | none => respond .a ⟨.nodeUnknown, []⟩ (f.received s)
        | some b => respond .a ⟨.ok, []⟩ (retest s (raiseBoth .nodeChange
            (abandonExchanges (fun x => x.node == n)
              ((finishAll .detached (openInOrder s n b) (f.received s)).setNode n
                { params := (s.node n).params, slow := false, counters := ⟨0, 0, 0, 0⟩, bound := none })))))

/-- NODE_REPROBE from port A answers BAD_PARAM above 15 and NODE_UNKNOWN for an ABSENT node. An OFFLINE node of a line whose
enable is clear is answered OK with nothing changed. Otherwise the node's live READs return to READY uncharged, its live
WRITEs move to DONE with LOST, each in the order of their last issue, the node is PROBING and due now with its
acknowledgement and back-offs gone, a POLL in flight is abandoned, and NODE_CHANGE is raised when it was not PROBING (R57,
R58, R79). -/
def Obligations.NodeReprobeWithdraws : Prop :=
  ∀ (f : HostFrame) (node : Byte) (s : State), f.port = .a → f.brings (.nodeReprobe node) s →
    (15 < node.toNat →
      exec (.nodeReprobe f.time f.port f.flags node f.check) s = .next (respond .a ⟨.badParam, []⟩ (f.received s))) ∧
    ∀ n : NodeIx, n.val = node.toNat →
      exec (.nodeReprobe f.time f.port f.flags node f.check) s = .next
        (match s.bound n with
        | none => respond .a ⟨.nodeUnknown, []⟩ (f.received s)
        | some b =>
          if b.health = .offline ∧ s.lineEnabled b.line = false then respond .a ⟨.ok, []⟩ (f.received s)
          else
            let live := s.byStamp (s.liveEntries n)
            let reads := live.filter fun i => s.holds i fun e => e.kind == .read
            let writes := live.filter fun i => s.holds i fun e => e.kind == .write
            let probing := abandonExchanges (fun x => x.node == n && x.kind == .poll)
              ((finishAll .lost writes (returnToReady false n reads (f.received s))).modBound n fun b =>
                { b with
                  health := .probing (some (max s.now f.time))
                  pendingAck := none
                  earliestPoll := none
                  refuseEnd := none })
            respond .a ⟨.ok, []⟩
              (match b.health with
              | .probing _ => probing
              | _ => raiseBoth .nodeChange probing))

/-- SET_PARAM is answered by the first of its five tests that fails, and changes nothing; when all pass it is answered OK and
the parameter of that number, and no other, has the new value as either port sees it, a per-port one as its own port sees it
(R172, R179, R182). -/
def Obligations.SetParamDecidesInOrder : Prop :=
  ∀ (f : HostFrame) (num value : Word) (s : State), Lawful s → f.brings (.setParam num value) s →
    (∀ code, firstFailure (setParamTests s f.port num.toNat value.toNat) = some code →
      exec (.setParam f.time f.port f.flags num value f.check) s = .next (respond f.port ⟨code, []⟩ (f.received s))) ∧
    (firstFailure (setParamTests s f.port num.toNat value.toNat) = none → ∃ u,
      exec (.setParam f.time f.port f.flags num value f.check) s = .next (respond f.port ⟨.ok, []⟩ u) ∧
      ∀ p, storedValues u p =
        if p = f.port ∨ ownNumber num.toNat = false then
          (storedValues s p).map fun x => if x.1 = num.toNat then (x.1, value.toNat) else x
        else storedValues s p)

/-- What else an accepted SET_PARAM does: a commitment limit tests the head of admission; a line enable changed from set to
clear makes an IDLE line DISABLED with its nodes OFFLINE in order of drop and sets disable pending on an EXCHANGING one; one
changed from clear to set makes a DISABLED line IDLE and clears disable pending; a value already held and every other
parameter touch nothing but the parameter (R35, R89, R90, R182). -/
def Obligations.SetParamActsAtItsOwner : Prop :=
  ∀ (f : HostFrame) (num value : Word) (s : State), Lawful s → f.brings (.setParam num value) s →
    firstFailure (setParamTests s f.port num.toNat value.toNat) = none → ∃ u,
      exec (.setParam f.time f.port f.flags num value f.check) s = .next (respond f.port ⟨.ok, []⟩ u) ∧
      (num.toNat = 0x0001 →
        u = retest s { f.received s with params := { s.params with limit := value.toNat } }) ∧
      (∀ l : LineIx, num.toNat = 0x0010 + l.val →
        let written := { f.received s with params := { s.params with lineEnable := s.params.lineEnable.set l (value == 1) } }
        u =
          if s.lineEnabled l = (value == 1) then f.received s
          else
            match (s.line l).state with
            | .idle =>
              retest s (([0, 1, 2, 3] : List DropIx).foldl
                (fun u d => match u.nodeAt l d with
                  | some n => goOffline n u
                  | none => u)
                (written.modLine l fun r => { r with state := .disabled }))
            | .disabled => written.modLine l fun r => { r with state := .idle }
            | .exchanging _ x => written.modLine l fun r => { r with state := .exchanging (value == 0) x }) ∧
      ((∀ l : LineIx, num.toNat ≠ 0x0010 + l.val) → num.toNat ≠ 0x0001 →
        u.now = max s.now f.time ∧ u.rstnLow = s.rstnLow ∧ u.stamp = s.stamp ∧ u.pending = s.pending ∧
        u.table = s.table ∧ u.admission = s.admission ∧ u.lines = s.lines ∧ u.buffer = s.buffer ∧
        (∀ n, u.node n = { s.node n with params := (u.node n).params }) ∧
        ∀ p, u.port p = { (f.received s).port p with params := (u.port p).params })

/-- GET_PARAM is answered OK with the value in force of the parameter its number names, as the receiving port sees it, and
BAD_PARAM for an unknown number; it changes nothing, and neither port is refused (R183). -/
def Obligations.GetParamReportsTheValue : Prop :=
  ∀ (f : HostFrame) (num : Word) (s : State), f.brings (.getParam num) s →
    (∀ v, (num.toNat, v) ∈ storedValues s f.port →
      exec (.getParam f.time f.port f.flags num f.check) s = .next (respond f.port ⟨.ok, wordBytes v⟩ (f.received s))) ∧
    ((∀ v, (num.toNat, v) ∉ storedValues s f.port) →
      exec (.getParam f.time f.port f.flags num f.check) s = .next (respond f.port ⟨.badParam, []⟩ (f.received s)))

/-! ## The lines -/

/-- LINE_GRANT grants nothing on a line that is not IDLE or where no node presents a candidate. Otherwise it grants to the
first node found from the drop after the last granted one, by the class order RESET, POLL, REQUEST: the exchange record at
attempt 1 with the frame that every attempt sends, the last granted drop the node's; for a RESET the probe time ceases, for
a SUSPECT node the suspect check time moves one interval on, for a REQUEST the head of the issue queue becomes ISSUING with
SENT set under the first seq from next seq on that is neither live nor abandoned, and there always is one (R10, R17, R50,
R52, R59, R73, R81 to R85, section 11.4). That a poll back-off holds back a pending acknowledgement, as R84 has it and R63
does not, is the model's choice (log entry 24). -/
def Obligations.GrantFollowsTheSearch : Prop :=
  ∀ (t : Time) (l : LineIx) (s : State), Lawful s → s.rstnLow = false →
    (((s.line l).state ≠ .idle ∨ ∀ n b, s.bound n = some b → b.line = l → ¬presentsAny (s.advance t) n b) →
      exec (.lineGrant t l) s = .next (s.advance t)) ∧
    ∀ n b, reachedBySearch (s.advance t) l n b →
      (let granted := fun (u : State) (kind : FrameKind) (ack : Option Ack) (type : Byte) (body : List Byte) =>
        u.modLine l fun r =>
          { r with
            lastGranted := b.drop
            state := .exchanging false
              { node := n, drop := b.drop, kind := kind, ack := ack, attempt := 1, abandoned := false, uncounted := false
                frame := closed ([type, byteOf b.drop.val, byteOf body.length] ++ body)
                window := s.params.responseWindow, phase := .sending } }
      (presentsReset (s.advance t) b →
        exec (.lineGrant t l) s = .next
          (granted ((s.advance t).modBound n fun b => { b with health := .probing none }) .reset none 0x01 [])) ∧
      (presentsPoll (s.advance t) n b →
        exec (.lineGrant t l) s = .next
          (granted
            ((s.advance t).modBound n fun b =>
              { b with
                health :=
                  match b.health with
                  | .suspect _ => .suspect (max s.now t + 1000 * s.params.suspectInterval)
                  | other => other })
            .poll b.pendingAck 0x03 (ackBytes b.pendingAck))) ∧
      (presentsRequest (s.advance t) n b → ¬presentsPoll (s.advance t) n b →
        ∃ i rest e k, b.issueQueue = i :: rest ∧ s.entry i = some e ∧ b.nextSeq + k ∉ s.usedSeqs n b ∧
          (∀ j, j < k → b.nextSeq + j ∈ s.usedSeqs n b) ∧
            exec (.lineGrant t l) s = .next
              (granted
                (({ s.advance t with stamp := s.stamp + 1 }.setEntry i (some
                  { e with
                    flags := { e.flags with sent := true }, stamp := s.stamp
                    phase := .issuing (b.nextSeq + k) })).modBound n fun b =>
                  { b with
                    issueQueue := rest
                    issuingSeq := some (b.nextSeq + k)
                    nextSeq := b.nextSeq + k + 1 })
                (.request (b.nextSeq + k)) b.pendingAck 0x02
                ([byteOf ((if e.kind = .write then 1 else 0) + (if b.pendingAck.isSome then 2 else 0)),
                    byteOf (b.nextSeq + k).val]
                  ++ wordBytes e.addr.toNat ++ wordBytes e.length ++ ackBytes b.pendingAck ++ e.payload))))

/-- FRAME_SENT opens the response window of the attempt that is being sent (R74); that it does nothing otherwise is the model's
choice (log entry 23). Bytes that arrive on a line while no attempt awaits an answer are discarded and counted nowhere (R74).
An answer of the table that comes too late to belong to the attempt, or that does not go on with the bytes received before
it, has no effect, which is the model's choice (log entry 11). -/
def Obligations.FrameSentOpensTheWindow : Prop :=
  (∀ (t : Time) (l : LineIx) (s : State), s.rstnLow = false →
    exec (.frameSent t l) s = .next
      (match (s.line l).state with
      | .exchanging pend x =>
        if x.phase = .sending then
          (s.advance t).modLine l fun r =>
            { r with state := .exchanging pend { x with phase := .awaiting (max s.now t) } }
        else s.advance t
      | _ => s.advance t)) ∧
  ∀ (t : Time) (l : LineIx) (c : Instr) (s : State), s.rstnLow = false → isAnswer t l c →
    ((∀ x soFar since, ¬hears s l x soFar since) → exec c s = .next (s.advance t)) ∧
    ∀ x soFar since whole, hears s l x soFar since → frameOf c = some whole → wellFormed c →
      (¬soFar <+: whole ∨ since + (min whole.length 40 - soFar.length) * (x.window + 40) ≤ max s.now t) →
        exec c s = .next (s.advance t)

/-- An attempt that fails raises LINE_ERROR on both ports and one counter of its line: no-answer when its response window
has closed with no byte received, frame-check for a broken answer, for a bad check byte, a missing stop bit or a body of more
than 36 bytes, mismatch for a good check byte with the wrong drop, a type that does not fit the frame, a body length outside
its type's range, another seq than a REQUEST's, or fields outside their formats. The same frame is sent again twice; then the
exchange has failed, with its outcome at the node, and the line is released. A byte that does not end its answer is kept, and
from then on the window's closing is not waited for, but a response window of quiet; a byte that ends the frame of an answer
does what the answer's row does; a row of several bytes does what its bytes do one after the other, each at its own time (R74,
R75, R76, R78, R79, R189, section 11.4). That a time not reached changes nothing (log entry 9), how bytes are told of and
which come too late (log entry 11), and that a broken answer may have bytes that no command told of (log entry 14) are the
model's choice. -/
def Obligations.FailedAttemptsEndTheExchange : Prop :=
  (∀ (t : Time) (l : LineIx) (bytes : List HeardByte) (s : State),
    ∃ u, execAll (bytes.map fun h => .invalidAnswer (t - h.ago) l [⟨h.byte, 0⟩]) s = .next u ∧
      exec (.invalidAnswer t l bytes) s = .next (u.advance t)) ∧
  ∀ (t : Time) (l : LineIx) (pend : Bool) (x : Exchange) (soFar : List LineByte) (since : Time) (s : State),
    Lawful s → s.rstnLow = false → (s.line l).state = .exchanging pend x → hears s l x soFar since →
    (let noAnswer := Host.Outcome.next (s.attemptFailed t l pend x fun c => { c with noAnswer := bump c.noAnswer })
    let frameCheck := Host.Outcome.next (s.attemptFailed t l pend x fun c => { c with frameCheck := bump c.frameCheck })
    let mismatch := Host.Outcome.next (s.attemptFailed t l pend x fun c => { c with mismatch := bump c.mismatch })
    let nothing := Host.Outcome.next (s.advance t)
    let inTime := fun (count : Nat) (out : Host.Outcome State Fault Refusal) =>
      if max s.now t < since + count * (x.window + 40) then out else nothing
    (exec (.responseWindowExpiry t l) s = if soFar = [] ∧ since + x.window ≤ max s.now t then noAnswer else nothing) ∧
    (exec (.brokenAnswer t l) s = if since + x.window ≤ max s.now t then frameCheck else nothing) ∧
    (∀ byte : LineByte,
      (let received := exec (.invalidAnswer t l [⟨byte, 0⟩]) s
      (((soFar ++ [byte]).length < 3 ∨ ∃ type drop len tail, soFar ++ [byte] = type :: drop :: len :: tail ∧
          tail.length + 3 < min (len.value.toNat + 4) 40) →
        received = inTime 1
          (.next ((s.advance t).modLine l fun r =>
            { r with state := .exchanging pend { x with phase := .receiving (soFar ++ [byte]) (max s.now t) } }))) ∧
      (∀ type drop len tail, soFar ++ [byte] = type :: drop :: len :: tail → 36 < len.value.toNat → tail.length = 37 →
        received = inTime 1 frameCheck) ∧
      (∀ type drop len body, soFar ++ [byte] = type :: drop :: len :: body ++ [byte] →
        len.value.toNat = body.length → body.length ≤ 36 →
        (let good := (soFar ++ [byte]).all (·.stop) ∧
          byte.value = crc8 (type.value :: drop.value :: len.value :: body.map (·.value))
        (¬good → received = inTime 1 frameCheck) ∧
        (good →
          (drop.value.toNat ≠ x.drop.val ∨
            match x.kind with
            | .reset => type.value ≠ 0x81 ∨ body.length ≠ 2
            | .request _ => (type.value ≠ 0x82 ∨ body.length ≠ 1) ∧ (type.value ≠ 0x83 ∨ body.length ≠ 2)
            | .poll =>
              (type.value ≠ 0x84 ∨ body.length < 4) ∧ (type.value ≠ 0x85 ∨ 16 < body.length) ∧
                (type.value ≠ 0x86 ∨ body.length ≠ 2)) →
          received = inTime 1 mismatch))))) ∧
    ∀ c whole, isAnswer t l c → frameOf c = some whole → wellFormed c → soFar <+: whole →
      (40 < whole.length → exec c s = inTime (40 - soFar.length) frameCheck) ∧
      (whole.length ≤ 40 → ¬validFor x c → exec c s = inTime (whole.length - soFar.length) mismatch) ∧
      ∀ byte, soFar ++ [byte] = whole → exec (.invalidAnswer t l [⟨byte, 0⟩]) s = exec c s)

/-- A valid answer that ends an abandoned exchange acts on no node record and reaches no handler: the line counts it among its
exchanges, or nowhere after DEVICE_RESET, and is released (R77, R79). -/
def Obligations.AbandonedExchangeActsOnNothing : Prop :=
  ∀ (t : Time) (l : LineIx) (x : Exchange) (c : Instr) (whole : List LineByte) (s : State),
    Lawful s → s.rstnLow = false → isAnswer t l c → frameOf c = some whole → s.takesWhole t l x whole →
      x.abandoned = true → validFor x c →
      exec c s = .next (retest s (releaseLine l
        (if x.uncounted then s.advance t
        else
          (s.advance t).modLine l fun r =>
            { r with counters := { r.counters with exchanges := bump r.counters.exchanges } })))

/-! ## Answers -/

/-- A valid IDENT brings its PROBING node ONLINE with a fresh start: counts 0, seqs and acknowledgement and back-offs gone,
next seq 0, E and S seeded with the slow marker following, the advertised window recorded as 1 to 8; NODE_CHANGE is raised
on both ports, and NODE_SLOW at an upward crossing (R51, R77, R96). -/
def Obligations.IdentStartsTheNode : Prop :=
  ∀ (t : Time) (l : LineIx) (drop cls window : Byte) (x : Exchange) (b : BoundNode) (s : State),
    Lawful s → serves s t l x b (answerBytes 0x81 drop [cls, window]) → x.kind = .reset → drop.toNat = x.drop.val →
      exec (.ident t l drop cls window) s = .next
        (let r := s.node x.node
        let above : Bool := r.params.slowCeiling < r.params.eSeed
        let started := ((s.advance t).modLine l fun r =>
            { r with counters := { r.counters with exchanges := bump r.counters.exchanges } }).setNode x.node
          { r with
            slow := above
            bound := some
              { b with
                health := .online, silence := 0, timeouts := 0, abandoned := [], pendingAck := none, earliestPoll := none
                refuseEnd := none, nextSeq := 0, lastGood := some (max s.now t), e := r.params.eSeed, s := r.params.sSeed
                advert := some ⟨if window = 0 then 1 else if 8 < window.toNat then 8 else window.toNat, cls⟩ } }
        retest s (releaseLine l (raiseBoth .nodeChange
          (if above && !r.slow then raiseBoth .nodeSlow started else started))))

/-- A valid ACCEPT makes the entry that is ISSUING under the seq ISSUED, with its accept time now, its deadline one deadline
length and its first-poll time half the estimate ahead. When that entry has gone, the seq is abandoned; so it is when the node
is PROBING, a READ then returning to READY uncharged and a WRITE ending LOST. The issuing seq ceases, and the node is owed no
acknowledgement (R11, R58, R61, R99, R109, R120). -/
def Obligations.AcceptIssuesTheEntry : Prop :=
  ∀ (t : Time) (l : LineIx) (drop seqByte : Byte) (seq : Seq) (x : Exchange) (b : BoundNode) (s : State),
    Lawful s → serves s t l x b (answerBytes 0x82 drop [seqByte]) → x.kind = .request seq → drop.toNat = x.drop.val →
      seqByte.toNat = seq.val →
      (let cleared := (s.served t l x b).modBound x.node fun b => { b with issuingSeq := none }
      let orphaned := cleared.modBound x.node fun b => { b with abandoned := withSeq seq b.abandoned }
      let ends := fun settled : State =>
        exec (.accept t l drop seqByte) s = .next (retest s (releaseLine l settled)) ∧
          (retest s (releaseLine l settled)).owesNothing x.node
      ((∀ i e, s.entry i = some e → e.node = x.node → e.phase ≠ .issuing seq) → ends orphaned) ∧
      ∀ i e, s.entry i = some e → e.node = x.node → e.phase = .issuing seq →
        ends
          (match b.health with
          | .probing _ =>
            (match e.kind with
            | .read => returnToReady false x.node [i] orphaned
            | .write => finish .lost i orphaned)
          | _ =>
            cleared.setEntry i (some
              { e with
                phase := .issued seq (max s.now t + 10 * deadlineTicks s x.node) (max s.now t + 10 * (b.e / 2)) (max s.now t) })))

/-- A valid REFUSE frees its seq. With FULL the entry still ISSUING returns to READY uncharged, and in any case the refuse
back-off runs for 20 ticks; with BAD_ADDRESS or BAD_LENGTH the entry still ISSUING ends with NODE_ERROR F0h or F1h and no
back-off starts. The node is owed no acknowledgement (R11, R61, R86, R110, R111, R120). -/
def Obligations.RefuseReturnsOrEnds : Prop :=
  ∀ (t : Time) (l : LineIx) (drop seqByte reason : Byte) (seq : Seq) (x : Exchange) (b : BoundNode) (s : State),
    Lawful s → serves s t l x b (answerBytes 0x83 drop [seqByte, reason]) → x.kind = .request seq →
      drop.toNat = x.drop.val → seqByte.toNat = seq.val → reason = 1 ∨ reason = 2 ∨ reason = 3 →
      (let cleared := (s.served t l x b).modBound x.node fun b => { b with issuingSeq := none }
      let refused := fun u : State => u.modBound x.node fun b => { b with refuseEnd := some (max s.now t + 200) }
      let ends := fun settled : State =>
        exec (.refuse t l drop seqByte reason) s = .next (retest s (releaseLine l settled)) ∧
          (retest s (releaseLine l settled)).owesNothing x.node
      ((∀ i e, s.entry i = some e → e.node = x.node → e.phase ≠ .issuing seq) →
        ends (if reason = 1 then refused cleared else cleared)) ∧
      ∀ i e, s.entry i = some e → e.node = x.node → e.phase = .issuing seq →
        ends
          (if reason = 1 then refused (returnToReady false x.node [i] cleared)
          else finish (.nodeError (if reason = 2 then 0xF0 else 0xF1)) i cleared))

/-- A valid SEGMENT for a live READ at the resume offset, when the free pool has the blocks it needs, is taken: its bytes
that fit below the length are placed in the READ's blocks, the new ones taken from the free pool, and every other byte of
the buffer stays; received rises by their number and surplus sets EXCESS; an ISSUED entry gives its latency sample; with the
last flag the entry moves to DONE with OK or SHORT, without it the entry is PARTIAL with its deadline restarted; the node is
owed an ACCEPTED acknowledgement at the new received (R12, R38, R92, R100, R112, R113, R114). -/
def Obligations.SegmentIsTaken : Prop :=
  ∀ (t : Time) (l : LineIx) (drop seqByte flags : Byte) (offset : Word) (data : List Byte) (seq : Seq) (x : Exchange)
    (b : BoundNode) (i : EntryIx) (e : Entry) (s : State),
    Lawful s → serves s t l x b (answerBytes 0x84 drop ([seqByte, flags] ++ wordBytes offset.toNat ++ data)) → x.kind = .poll →
      drop.toNat = x.drop.val → seqByte.toNat = seq.val → data.length ≤ 32 →
      s.entry i = some e → e.node = x.node → e.phase.liveSeq = some seq → e.kind = .read → offset.toNat = e.received →
      (let taken := min data.length (e.length - e.received)
      let needed := (e.received + taken + 15) / 16 - (e.received + 15) / 16
      needed ≤ s.freeBlocks.length → ∃ fresh buffer u,
        exec (.segment t l drop seqByte flags offset data) s = .next (retest s (releaseLine l u)) ∧
        fresh.length = needed ∧ fresh.Nodup ∧ (∀ c ∈ fresh, c ∉ s.occupied) ∧
        (let place := fun k => 16 * ((e.blocks ++ fresh).getD (k / 16) 0).val + k % 16
        (∀ k, k < taken → bufferRead buffer (place (e.received + k)) = data.getD k 0) ∧
        (∀ a, (∀ k, k < taken → a ≠ place (e.received + k)) → bufferRead buffer a = bufferRead s.buffer a)) ∧
        (let filled : Entry :=
          { e with
            blocks := e.blocks ++ fresh
            received := e.received + taken
            flags := { e.flags with excess := e.flags.excess || taken < data.length } }
        let placed := { s.served t l x b with buffer := buffer }.setEntry i (some filled)
        let sampled :=
          match e.phase with
          | .issued _ _ _ accepted => takeSample x.node accepted placed
          | _ => placed
        let settled :=
          if flags.getLsbD 0 then finish (if e.received + taken = e.length then .ok else .short) i sampled
          else
            sampled.setEntry i (some
              { filled with phase := .part seq (max s.now t + 10 * deadlineTicks sampled x.node) })
        u = settled.modBound x.node fun b => { b with pendingAck := some ⟨seq, e.received + taken, .accepted⟩ }))

/-- A valid SEGMENT for a live READ that is not taken leaves its data, state and flags and restarts its deadline. At the
resume offset without the blocks it needs it is answered HOLD: OVERRUN on the entry's port, a HOLD acknowledgement at
received, and a hold back-off of 10 ticks. At another offset it is a duplicate or a gap: an ACCEPTED acknowledgement at
received (R39, R100, R115). -/
def Obligations.SegmentIsHeldOrDropped : Prop :=
  ∀ (t : Time) (l : LineIx) (drop seqByte flags : Byte) (offset : Word) (data : List Byte) (seq : Seq) (x : Exchange)
    (b : BoundNode) (i : EntryIx) (e : Entry) (s : State),
    Lawful s → serves s t l x b (answerBytes 0x84 drop ([seqByte, flags] ++ wordBytes offset.toNat ++ data)) → x.kind = .poll →
      drop.toNat = x.drop.val → seqByte.toNat = seq.val → data.length ≤ 32 →
      s.entry i = some e → e.node = x.node → e.phase.liveSeq = some seq → e.kind = .read →
      (let due := max s.now t + 10 * deadlineTicks s x.node
      let restarted := (s.served t l x b).setEntry i (some
        { e with
          phase :=
            match e.phase with
            | .issued _ _ firstPoll accepted => .issued seq due firstPoll accepted
            | _ => .part seq due })
      let owed := fun (d : Disposition) (u : State) =>
        u.modBound x.node fun b => { b with pendingAck := some ⟨seq, e.received, d⟩ }
      (offset.toNat ≠ e.received →
        exec (.segment t l drop seqByte flags offset data) s =
          .next (retest s (releaseLine l (owed .accepted restarted)))) ∧
      (offset.toNat = e.received →
        s.freeBlocks.length <
          (e.received + min data.length (e.length - e.received) + 15) / 16 - (e.received + 15) / 16 →
        exec (.segment t l drop seqByte flags offset data) s =
          .next (retest s (releaseLine l (owed .hold
            ((raiseOn e.port .overrun restarted).modBound x.node fun b =>
              { b with earliestPoll := some (max s.now t + 100) }))))))

/-- A valid SEGMENT for a live WRITE: data sets EXCESS and is dropped; with the last flag the sample is taken and the entry
moves to DONE with OK, without it the deadline restarts; either way the node is owed an ACCEPTED acknowledgement at 0, and
the offset is not examined (R92, R100, R116). -/
def Obligations.SegmentCompletesAWrite : Prop :=
  ∀ (t : Time) (l : LineIx) (drop seqByte flags : Byte) (offset : Word) (data : List Byte) (seq : Seq) (x : Exchange)
    (b : BoundNode) (i : EntryIx) (e : Entry) (deadline firstPoll accepted : Time) (s : State),
    Lawful s → serves s t l x b (answerBytes 0x84 drop ([seqByte, flags] ++ wordBytes offset.toNat ++ data)) → x.kind = .poll →
      drop.toNat = x.drop.val → seqByte.toNat = seq.val → data.length ≤ 32 →
      s.entry i = some e → e.node = x.node → e.phase = .issued seq deadline firstPoll accepted → e.kind = .write →
        exec (.segment t l drop seqByte flags offset data) s = .next (retest s (releaseLine l
          (let noted : Entry := { e with flags := { e.flags with excess := e.flags.excess || !data.isEmpty } }
          let settled :=
            if flags.getLsbD 0 then
              finish .ok i (takeSample x.node accepted ((s.served t l x b).setEntry i (some noted)))
            else
              (s.served t l x b).setEntry i (some
                { noted with
                  phase := .issued seq (max s.now t + 10 * deadlineTicks s x.node) firstPoll accepted })
          settled.modBound x.node fun b => { b with pendingAck := some ⟨seq, 0, .accepted⟩ })))

/-- A valid FAULT for a live entry, READ or WRITE, takes the sample of an ISSUED one and ends it with NODE_ERROR and the
node's code; the node is owed no acknowledgement (R92, R117, R120). -/
def Obligations.FaultEndsTheEntry : Prop :=
  ∀ (t : Time) (l : LineIx) (drop seqByte code : Byte) (seq : Seq) (x : Exchange) (b : BoundNode) (i : EntryIx) (e : Entry)
    (s : State),
    Lawful s → serves s t l x b (answerBytes 0x86 drop [seqByte, code]) → x.kind = .poll → drop.toNat = x.drop.val →
      seqByte.toNat = seq.val → s.entry i = some e → e.node = x.node → e.phase.liveSeq = some seq →
        (let next := retest s (releaseLine l
          (finish (.nodeError code) i
            (match e.phase with
            | .issued _ _ _ accepted => takeSample x.node accepted (s.served t l x b)
            | _ => s.served t l x b)))
        exec (.fault t l drop seqByte code) s = .next next ∧ next.owesNothing x.node)

/-- A valid SEGMENT or FAULT under a seq that is not live touches no entry, block, deadline or sample and leaves a DISCARD
acknowledgement at 0. Under an abandoned seq it is LATE: the seq is free, the late replies counter rises, LATE is raised on
both ports. Under any other it is UNEXPECTED: the unexpected replies counter rises, UNEXPECTED is raised on both ports, and
the abandoned set stays (R108, R118, R119). -/
def Obligations.DeadAnswersAreDiscarded : Prop :=
  ∀ (t : Time) (l : LineIx) (drop seqByte flags code : Byte) (offset : Word) (data : List Byte) (seq : Seq) (x : Exchange)
    (b : BoundNode) (s : State),
    Lawful s → x.kind = .poll → drop.toNat = x.drop.val → seqByte.toNat = seq.val → data.length ≤ 32 →
      seq ∉ s.liveSeqs x.node →
      (let dropped :=
        if seq ∈ b.abandoned then
          raiseBoth .late ((s.served t l x b).modNode x.node fun r =>
            { r with
              counters := { r.counters with late := bump r.counters.late }
              bound := r.bound.map fun b =>
                { b with
                  abandoned := b.abandoned.filter fun q => q != seq
                  pendingAck := some ⟨seq, 0, .discard⟩ } })
        else
          raiseBoth .unexpected ((s.served t l x b).modNode x.node fun r =>
            { r with
              counters := { r.counters with unexpected := bump r.counters.unexpected }
              bound := r.bound.map fun b => { b with pendingAck := some ⟨seq, 0, .discard⟩ } })
      (serves s t l x b (answerBytes 0x84 drop ([seqByte, flags] ++ wordBytes offset.toNat ++ data)) →
        exec (.segment t l drop seqByte flags offset data) s = .next (retest s (releaseLine l dropped))) ∧
      (serves s t l x b (answerBytes 0x86 drop [seqByte, code]) →
        exec (.fault t l drop seqByte code) s = .next (retest s (releaseLine l dropped))))

/-- A valid PENDING is reconciled: abandoned seqs it does not list are free; live entries it does not list are lost, READs
below the retry limit returning to READY charged, the others ending LOST, each in the order of their last issue; a listed
seq that is neither live nor abandoned counts one UNEXPECTED for the whole list; and the poll back-off runs for a quarter of
E, 5 ticks at least. The node is owed no acknowledgement (R86, R120, R121, R122, R123, R124). -/
def Obligations.PendingIsReconciled : Prop :=
  ∀ (t : Time) (l : LineIx) (drop : Byte) (listed : List Seq) (x : Exchange) (b : BoundNode) (s : State),
    Lawful s → serves s t l x b (answerBytes 0x85 drop (listed.map fun q => byteOf q.val)) → x.kind = .poll →
      drop.toNat = x.drop.val → listed.Nodup →
        (let n := x.node
        let drained := (s.served t l x b).modBound n fun b => { b with abandoned := b.abandoned.filter (listed.contains ·) }
        let lost := s.byStamp (s.entriesWhere fun e => e.node == n && e.phase.liveSeq.any fun q => !listed.contains q)
        let again := fun i => s.holds i fun e => e.kind == .read && e.retries < (s.node n).params.retryLimit
        let settled := finishAll .lost (lost.filter fun i => !again i) (returnToReady true n (lost.filter again) drained)
        let noted :=
          if listed.any fun q => !(s.liveSeqs n).contains q && !b.abandoned.contains q then
            raiseBoth .unexpected (settled.modNode n fun r =>
              { r with counters := { r.counters with unexpected := bump r.counters.unexpected } })
          else settled
        let next := retest s (releaseLine l
          (noted.modBound n fun b => { b with earliestPoll := some (max s.now t + 10 * max (b.e / 4) 5) }))
        exec (.pending t l drop (listed.map fun q => byteOf q.val)) s = .next next ∧ next.owesNothing n)

/-! ## Timers -/

/-- DEADLINE_EXPIRY of a live entry whose deadline now has reached: its seq is abandoned, the node's timeout count and
timeouts counter rise, a READ below the retry limit returns to READY charged and any other entry ends with TIMEOUT, and then
a node at its timeout threshold enters OFFLINE. A deadline that lies ahead, or an entry without one, is not touched (R24,
R65, R101, R102, R103). That a time not reached changes nothing (log entry 9), that an entry being held expires too, which R43
denies (log entry 25), and that each expiry puts its own entry into its queue, so that two expiries leave an order, which
R104 denies (log entry 26), are the model's choice. -/
def Obligations.DeadlineExpiryAbandonsTheSeq : Prop :=
  ∀ (t : Time) (i : EntryIx) (s : State), Lawful s → s.rstnLow = false →
    ((∀ e ∈ s.entry i, e.phase.liveSeq = none) → exec (.deadlineExpiry t i) s = .next (s.advance t)) ∧
    ∀ e seq deadline, s.entry i = some e →
      (e.phase = .part seq deadline ∨ ∃ first accepted, e.phase = .issued seq deadline first accepted) →
        exec (.deadlineExpiry t i) s = .next
          (if deadline ≤ max s.now t then
            let counted := (s.advance t).modNode e.node fun r =>
              { r with
                counters := { r.counters with timeouts := bump r.counters.timeouts }
                bound := r.bound.map fun b =>
                  { b with abandoned := withSeq seq b.abandoned, timeouts := min (b.timeouts + 1) 15 } }
            let settled :=
              if e.kind = .read ∧ e.retries < (s.node e.node).params.retryLimit then returnToReady true e.node [i] counted
              else finish .timeout i counted
            retest s
              (if ∃ b ∈ s.bound e.node, (s.node e.node).params.timeoutThreshold ≤ min (b.timeouts + 1) 15 then
                goOffline e.node settled
              else settled)
          else s.advance t)

/-- A probe time, a first-poll time and a suspect check time stay present when now reaches them, and from then on the node
they gate presents its RESET or POLL; the end of a poll, hold or refuse back-off that now has reached ceases to be present,
and one that lies ahead stays (R83, R84, R86, R99); that a time not reached changes nothing is the model's choice (log entry
9). -/
def Obligations.TimesGateTheCandidates : Prop :=
  ∀ (t : Time) (n : NodeIx) (i : EntryIx) (s : State), s.rstnLow = false →
    exec (.probeTime t n) s = .next (s.advance t) ∧
    exec (.firstPollTime t i) s = .next (s.advance t) ∧
    exec (.suspectCheckTime t n) s = .next (s.advance t) ∧
    (∀ b due, s.bound n = some b → b.health = .probing (some due) → due ≤ t → presentsReset (s.advance t) b) ∧
    (∀ e seq deadline first accepted, s.entry i = some e → e.phase = .issued seq deadline first accepted → first ≤ t →
      ∀ b, s.bound e.node = some b → b.health = .online → b.earliestPoll = none → presentsPoll (s.advance t) e.node b) ∧
    (∀ b due, s.bound n = some b → b.health = .suspect due → due ≤ t → presentsPoll (s.advance t) n b) ∧
    exec (.earliestPollTimeEnd t n) s = .next ((s.advance t).modBound n fun b =>
      { b with earliestPoll := b.earliestPoll.filter fun end_ => max s.now t < end_ }) ∧
    exec (.refuseBackOffEnd t n) s = .next ((s.advance t).modBound n fun b =>
      { b with refuseEnd := b.refuseEnd.filter fun end_ => max s.now t < end_ })

/-! ## The shared moves -/

/-- The move of an open entry to DONE: it stands at the tail of its port's completion queue with the status and, when the hold
time is not 0, its expiry; with OK or SHORT it keeps its data and trims its commitment to its blocks, and its node's timeout
count is 0; with another status it gives up data, blocks and commitment. No other entry, port, line or event changes, and a
FREE or DONE entry is not moved (R15, R21, R136). -/
def Obligations.MoveToDoneSettlesTheEntry : Prop :=
  ∀ (status : Status) (i : EntryIx) (s : State), QueueLaw s →
    ((∀ e ∈ s.entry i, e.phase.isDone) → finish status i s = s) ∧
    ∀ e, s.entry i = some e → e.phase.isDone = false →
      (let u := finish status i s
      let kept := status = .ok ∨ status = .short
      let hold := (s.port e.port).params.holdTime
      let expiry := if hold = 0 then none else some (s.now + 1000 * hold)
      u.entry i = some
        { e with
          phase := .done status expiry
          committed := if kept then e.blocks.length else 0
          blocks := if kept then e.blocks else []
          received := if kept then e.received else 0 } ∧
      (∀ j, j ≠ i → u.entry j = s.entry j) ∧
      u.port e.port = { s.port e.port with completion := (s.port e.port).completion ++ [i] } ∧
      (∀ p, p ≠ e.port → u.port p = s.port p) ∧
      u.admission = s.admission.filter (· ≠ i) ∧
      (∀ n b, s.bound n = some b → u.node n =
        { s.node n with
          bound := some
            { b with
              issueQueue := b.issueQueue.filter (· ≠ i)
              timeouts := if n = e.node ∧ kept then 0 else b.timeouts } }) ∧
      (∀ n, s.bound n = none → u.node n = s.node n) ∧
      u.lines = s.lines ∧ u.params = s.params ∧ u.buffer = s.buffer ∧ u.stamp = s.stamp ∧ u.now = s.now ∧
      u.rstnLow = s.rstnLow ∧ u.pending = s.pending)

/-- The return of entries of one node to READY: each loses its data, its blocks and EXCESS, keeps its commitment and SENT, and
has one retry more when the return is charged; together they stand at the head of the node's issue queue in the order of their
last issue, ahead of those already there. Nothing else changes (R13, R14). -/
def Obligations.ReturnToReadyKeepsTheOrder : Prop :=
  ∀ (charged : Bool) (n : NodeIx) (b : BoundNode) (is : List EntryIx) (s : State),
    is.Nodup → s.bound n = some b →
      (let u := returnToReady charged n is s
      (∀ i ∈ is, ∀ e ∈ s.entry i, u.entry i = some
        { e with
          received := 0
          blocks := []
          retries := if charged then e.retries + 1 else e.retries
          flags := { e.flags with excess := false }
          phase := .ready }) ∧
      (∀ i, i ∉ is → u.entry i = s.entry i) ∧
      (∃ first, u.node n = { s.node n with bound := some { b with issueQueue := first ++ b.issueQueue } } ∧
        first.Perm is ∧ first.Pairwise fun i j => s.stampAt i ≤ s.stampAt j) ∧
      (∀ m, m ≠ n → u.node m = s.node m) ∧
      u.admission = s.admission ∧ u.lines = s.lines ∧ u.portA = s.portA ∧ u.portB = s.portB ∧ u.params = s.params ∧
      u.buffer = s.buffer ∧ u.stamp = s.stamp ∧ u.now = s.now ∧ u.rstnLow = s.rstnLow ∧ u.pending = s.pending)

/-- Admission's test after an event: when the committed total has fallen, the limit has risen or another entry has become the
head, the heads that fit are granted one after the other, each READY at the tail of its node's issue queue with its need
committed, until a head fails or the queue is empty; without such a cause nothing changes (R9, R28, R31). That the cause is
found by comparing the state before the event with the state after all its moves is the model's choice (log entry 16). -/
def Obligations.AdmissionTestsItsHeads : Prop :=
  ∀ before after : State, TableLaw after → QueueLaw after → after.committedTotal ≤ after.params.limit →
    (before.committedTotal ≤ after.committedTotal → after.params.limit ≤ before.params.limit →
      after.admission.head? = before.admission.head? → retest before after = after) ∧
    ((after.committedTotal < before.committedTotal ∨ before.params.limit < after.params.limit ∨
        after.admission.head? ≠ before.admission.head?) →
      ∃ k, (let u := retest before after
      u.admission = after.admission.drop k ∧
      (∀ i ∈ after.admission.take k, ∀ e ∈ after.entry i,
        u.entry i = some { e with committed := (e.length + 15) / 16, phase := .ready }) ∧
      (∀ i, i ∉ after.admission.take k → u.entry i = after.entry i) ∧
      (∀ n b, after.bound n = some b → u.node n =
        { after.node n with
          bound := some
            { b with
              issueQueue :=
                b.issueQueue ++ (after.admission.take k).filter fun i => after.holds i fun e => e.node == n } }) ∧
      (∀ n, after.bound n = none → u.node n = after.node n) ∧
      u.committedTotal ≤ u.params.limit ∧
      (∀ i ∈ u.admission.head?, ∀ e ∈ u.entry i, u.params.limit < u.committedTotal + (e.length + 15) / 16) ∧
      u.lines = after.lines ∧ u.portA = after.portA ∧ u.portB = after.portB ∧ u.params = after.params ∧
      u.buffer = after.buffer ∧ u.stamp = after.stamp ∧ u.now = after.now ∧ u.rstnLow = after.rstnLow ∧
      u.pending = after.pending))

/-- The entry of a node into OFFLINE: every open entry of the node moves to DONE with NODE_OFFLINE, joining its port's
completion queue in the order ISSUED and PARTIAL by their last issue, then ISSUING, then READY from the head, then WAITING
from the head; the node keeps its counts, E, S, next seq and advertisement and loses its queue, seqs, acknowledgement and
times; the exchange in flight for it is abandoned; NODE_CHANGE is raised on both ports (R54, R55, R79). -/
def Obligations.OfflineEntryEndsTheEntries : Prop :=
  ∀ (n : NodeIx) (b : BoundNode) (s : State), QueueLaw s → TableLaw s → NodeLaw s → SeqLaw s → s.bound n = some b →
    b.health ≠ .offline →
    (let u := goOffline n s
    (∀ i e, s.entry i = some e → e.node = n → e.phase.isDone = false → u.entry i = some
      { e with
        committed := 0
        blocks := []
        received := 0
        phase := .done .nodeOffline
          (if (s.port e.port).params.holdTime = 0 then none
          else some (s.now + 1000 * (s.port e.port).params.holdTime)) }) ∧
    (∀ i, (∀ e ∈ s.entry i, e.node = n → e.phase.isDone) → u.entry i = s.entry i) ∧
    (∃ live issuing waiting,
      (∀ i, i ∈ live ↔ ∃ e ∈ s.entry i, e.node = n ∧ e.phase.liveSeq.isSome) ∧ live.Nodup ∧
      (live.Pairwise fun i j => s.stampAt i ≤ s.stampAt j) ∧
      (∀ i, i ∈ issuing ↔ ∃ e ∈ s.entry i, e.node = n ∧ e.phase.issuingSeq.isSome) ∧ issuing.length ≤ 1 ∧
      waiting = s.admission.filter (fun i => s.holds i fun e => e.node == n) ∧
      ∀ p, u.port p =
        { s.port p with
          completion := (s.port p).completion ++
            (live ++ issuing ++ b.issueQueue ++ waiting).filter fun i => s.holds i fun e => e.port == p
          events := withEvent .nodeChange (s.port p).events
          readMarker := (s.port p).readMarker.map (withoutEvent .nodeChange) }) ∧
    u.node n =
      { s.node n with
        bound := some
          { b with
            health := .offline, issueQueue := [], issuingSeq := none, abandoned := [], pendingAck := none
            earliestPoll := none, refuseEnd := none } } ∧
    (∀ m, m ≠ n → u.node m = s.node m) ∧
    u.admission = s.admission.filter (fun i => !s.holds i fun e => e.node == n) ∧
    (∀ l, u.line l = { s.line l with
      state :=
        match (s.line l).state with
        | .exchanging pend x => .exchanging pend { x with abandoned := x.abandoned || x.node == n }
        | other => other }) ∧
    u.params = s.params ∧ u.buffer = s.buffer ∧ u.stamp = s.stamp ∧ u.now = s.now ∧ u.rstnLow = s.rstnLow ∧
    u.pending = s.pending)

/-- A line released at the end of its exchange is IDLE; with disable pending set it is DISABLED, and its nodes enter OFFLINE
one after the other in order of drop, those that are OFFLINE already staying as they are (R72, R77, R89). -/
def Obligations.ReleasedLineIsIdleOrDisabled : Prop :=
  ∀ (l : LineIx) (x : Exchange) (s : State), QueueLaw s → TableLaw s → NodeLaw s → SeqLaw s →
    ((s.line l).state = .exchanging false x →
      releaseLine l s = s.modLine l fun r => { r with state := .idle }) ∧
    ((s.line l).state = .exchanging true x →
      releaseLine l s = ([0, 1, 2, 3] : List DropIx).foldl
        (fun u d => match u.nodeAt l d with
          | some n => goOffline n u
          | none => u)
        (s.modLine l fun r => { r with state := .disabled }) ∧
      (∀ n b, s.bound n = some b → b.health = .offline → goOffline n s = s) ∧
      (releaseLine l s).line l = { s.line l with state := .disabled } ∧
      (∀ n b, s.bound n = some b → b.line = l → ∃ c, (releaseLine l s).bound n = some c ∧ c.health = .offline) ∧
      (∀ n b, s.bound n = some b → b.line ≠ l → (releaseLine l s).node n = s.node n) ∧
      (∀ i e, s.entry i = some e → (e.phase.isDone ∨ ∃ b ∈ s.bound e.node, b.line ≠ l) →
        (releaseLine l s).entry i = s.entry i) ∧
      ∀ i e, s.entry i = some e → e.phase.isDone = false → (∃ b ∈ s.bound e.node, b.line = l) →
        ∃ c expiry, (releaseLine l s).entry i = some c ∧ c.phase = .done .nodeOffline expiry)

/-- A latency sample moves E by an eighth of its distance and S by a quarter of the rest, truncated toward zero, from the E
and S that stood before; the slow marker follows the new E, with NODE_SLOW on both ports at an upward crossing only. A
deadline then starts or restarts with the fixed deadline of a node in FIXED mode, and in ADAPTIVE mode with E plus four
times S plus G, at least Dmin and at most Dmax (R92, R94, R96, R97, R98). -/
def Obligations.LatencyFollowsTheSamples : Prop :=
  ∀ (n : NodeIx) (accepted : Time) (b : BoundNode) (s : State), NodeLaw s → ParamLaw s → s.bound n = some b →
    (∃ e spread : Nat,
      (let sample : Int := ((min ((s.now - accepted) / 10) 4095 : Nat) : Int)
      (e : Int) = b.e + (sample - b.e).tdiv 8 ∧ (spread : Int) = b.s + (|sample - b.e| - b.s).tdiv 4) ∧
      e ≤ 4095 ∧ spread ≤ 4095 ∧
      (let r := s.node n
      let above : Bool := r.params.slowCeiling < e
      let written := s.setNode n { r with slow := above, bound := some { b with e := e, s := spread } }
      takeSample n accepted s = if above && !r.slow then raiseBoth .nodeSlow written else written)) ∧
    deadlineTicks s n =
      if (s.node n).params.mode = .fixed then (s.node n).params.fixedDeadline
      else max s.params.dmin (min s.params.dmax (b.e + 4 * b.s + s.params.guard))
end

