-- ==== Sys2Proof/Laws/Answers.lean ====
section
/-! SUPPORT. Laws/Answers.lean: what the bytes of an answer do on a line, said once: what a line listens for, when bytes are
kept, when they end the attempt, and that the bytes of a node's frame are judged as its fields are. -/

namespace Sys2Proof.Machine

/-! ## What a line listens for -/

/-- A line listens for an answer exactly while the attempt of its exchange awaits one or receives one. -/
theorem listening_eq_some {s : State} {l : LineIx} {x : Exchange} {soFar : List LineByte} {since : Time} :
    listening s l = some (x, soFar, since) ↔ hears s l x soFar since := by
  unfold listening hears
  cases hs : (s.line l).state with
  | disabled => simp
  | idle => simp
  | exchanging pend y =>
    cases hp : y.phase <;> simp only [hp] <;> constructor
    · rintro ⟨⟩
    · rintro ⟨⟨_, ⟨⟩⟩, h⟩; simp [hp] at h
    · rintro ⟨⟩; exact ⟨⟨_, rfl⟩, .inl ⟨hp, rfl⟩⟩
    · rintro ⟨⟨_, ⟨⟩⟩, h⟩; simp [hp] at h; simp [h]
    · rintro ⟨⟩; exact ⟨⟨_, rfl⟩, .inr hp⟩
    · rintro ⟨⟨_, ⟨⟩⟩, h⟩; simp [hp] at h; simp [h]

/-- A line listens for nothing exactly when no exchange, received bytes and time fit it. -/
theorem listening_eq_none {s : State} {l : LineIx} :
    listening s l = none ↔ ∀ x soFar since, ¬hears s l x soFar since := by
  simp only [← listening_eq_some]
  rcases listening s l with _ | ⟨x, soFar, since⟩ <;> simp

@[simp] theorem listening_advance (s : State) (t : Time) (l : LineIx) : listening (s.advance t) l = listening s l := rfl

/-- A new phase of the attempt on a line whose exchange is known. -/
theorem setPhase_eq {s : State} {l : LineIx} {pend : Bool} {x : Exchange} (h : (s.line l).state = .exchanging pend x)
    (phase : AttemptPhase) :
    setPhase l phase s = s.modLine l fun r => { r with state := .exchanging pend { x with phase := phase } } := by
  simp [setPhase, State.modLine, h]

/-- A line that listens runs the exchange it listens for. -/
theorem hears_line {s : State} {l : LineIx} {x : Exchange} {soFar : List LineByte} {since : Time}
    (h : hears s l x soFar since) : ∃ pend, (s.line l).state = .exchanging pend x := h.1

/-! ## Where an answer ends -/

theorem answerEnd_le (bytes : List LineByte) : answerEnd bytes ≤ 40 := by
  unfold answerEnd
  split <;> simp [maxAnswerBytes]

/-- The third byte fixes where an answer ends. -/
@[simp] theorem answerEnd_header (type drop len : LineByte) (rest : List LineByte) :
    answerEnd (type :: drop :: len :: rest) = min (len.value.toNat + 4) 40 := rfl

/-- Until the third byte has been received, only the longest answer bounds it. -/
theorem answerEnd_short {bytes : List LineByte} (h : bytes.length < 3) : answerEnd bytes = 40 := by
  match bytes, h with
  | [], _ => rfl
  | [_], _ => rfl
  | [_, _], _ => rfl

/-! ## The frames of the six answers -/

/-- The bytes that a node's frame brings are those of section 11.4. -/
theorem frame_clean (drop : Byte) (a : NodeAnswer) :
    (a.frame drop).map cleanByte = answerBytes a.type drop a.body := rfl

@[simp] theorem length_answerBytes (type drop : Byte) (body : List Byte) :
    (answerBytes type drop body).length = body.length + 4 := by simp [answerBytes, closed]

/-- The frame of an answer with a body of at most 36 bytes ends with its check byte, whatever comes behind it. -/
theorem answerEnd_answerBytes (type drop : Byte) (body : List Byte) (surplus : List LineByte) (h : body.length ≤ 36) :
    answerEnd (answerBytes type drop body ++ surplus) = body.length + 4 := by
  have hl : (byteOf body.length).toNat = body.length := by simp [byteOf]; omega
  have : answerBytes type drop body ++ surplus =
      ⟨type, true⟩ :: ⟨drop, true⟩ :: ⟨byteOf body.length, true⟩ ::
        ((body ++ [crc8 ([type, drop, byteOf body.length] ++ body)]).map (fun b => ⟨b, true⟩) ++ surplus) := by
    simp [answerBytes, closed]
  rw [this, answerEnd_header, hl]
  omega

/-- The frame of an answer with a body of at most 36 bytes ends with its last byte. -/
theorem answerEnd_frame (a : NodeAnswer) (drop : Byte) (h : a.body.length ≤ 36) :
    answerEnd (answerBytes a.type drop a.body) = (answerBytes a.type drop a.body).length := by
  have := answerEnd_answerBytes a.type drop a.body [] h
  rwa [List.append_nil, ← length_answerBytes a.type drop a.body] at this

theorem wordOf_wordBytes (w : Word) :
    wordOf (byteOf (w.toNat / 256)) (byteOf w.toNat) = w := by
  apply BitVec.eq_of_toNat_eq
  have := w.isLt
  simp [wordOf, byteOf]
  omega

/-- The six answers are read back from their type and body. -/
@[simp] theorem answerOf_body (a : NodeAnswer) : answerOf a.type a.body = some a := by
  cases a with
  | segment seq flags offset data =>
    show some (NodeAnswer.segment seq flags (wordOf (byteOf (offset.toNat / 256)) (byteOf offset.toNat)) data) = _
    rw [wordOf_wordBytes]
  | _ => rfl

/-- A frame whose header and check byte agree with its body is judged by what its type and body spell (R75). -/
theorem judgeAnswerBytes_frame (x : Exchange) (type drop : Byte) (body : List Byte) (h : body.length ≤ 36) :
    judgeAnswerBytes x (closed ([type, drop, byteOf body.length] ++ body)) =
      match answerOf type body with
      | some a => judgeAnswer x drop a
      | none => .mismatch := by
  have hl : (byteOf body.length).toNat = body.length := by simp [byteOf]; omega
  show judgeAnswerBytes x (type :: drop :: byteOf body.length :: (body ++ [crc8 ([type, drop, byteOf body.length] ++ body)])) = _
  simp only [judgeAnswerBytes, hl, maxAnswerBody, List.take_left', List.drop_left', h]
  refine (if_pos (by simp)).trans ?_
  cases answerOf type body <;> rfl

/-- The bytes of a node's frame with all their stop bits are judged as its fields are (R75, section 11.4). -/
theorem judgeReceived_frame (x : Exchange) (drop : Byte) (a : NodeAnswer) (h : a.body.length ≤ 36) :
    judgeReceived x (answerBytes a.type drop a.body) = judgeAnswer x drop a := by
  have hv : (answerBytes a.type drop a.body).map LineByte.value = a.frame drop := by
    simp [answerBytes, NodeAnswer.frame, Function.comp_def]
  have hs : (answerBytes a.type drop a.body).all LineByte.stop = true := by simp [answerBytes]
  rw [judgeReceived, if_pos hs, hv, NodeAnswer.frame, judgeAnswerBytes_frame x _ _ _ h, answerOf_body]

/-- A byte without its stop bit fails the check byte (R189). -/
theorem judgeReceived_stop {x : Exchange} {bytes : List LineByte} (h : bytes.all LineByte.stop = false) :
    judgeReceived x bytes = .frameCheck := by simp [judgeReceived, h]

/-! ## Bytes received -/

/-- All that an answer's bytes do when the line takes them: one step further, or the end of the attempt (R74). -/
theorem takeAnswer_unfinished {l : LineIx} {x : Exchange} {answer : List LineByte} {s : State}
    (h : answer.length < answerEnd answer) : takeAnswer l x answer s = setPhase l (.receiving answer s.now) s := if_pos h

theorem takeAnswer_ended {l : LineIx} {x : Exchange} {answer : List LineByte} {s : State}
    (h : answerEnd answer ≤ answer.length) :
    takeAnswer l x answer s = retest s (endAnswer l x s (judgeReceived x answer)) := if_neg (Nat.not_lt.mpr h)

/-- All that a byte received on a line can do while the line listens (R74). -/
theorem receiveByte_eq {s : State} {l : LineIx} {x : Exchange} {soFar : List LineByte} {since : Time}
    (h : hears s l x soFar since) (byte : LineByte) :
    receiveByte l byte s =
      if s.now < since + (x.window + 40) then takeAnswer l x (soFar ++ [byte]) s else s := by
  simp [receiveByte, listening_eq_some.mpr h, keepsUp]

/-- A byte received while the line listens for nothing is discarded (R74). -/
theorem receiveByte_deaf {s : State} {l : LineIx} (h : ∀ x soFar since, ¬hears s l x soFar since) (byte : LineByte) :
    receiveByte l byte s = s := by simp [receiveByte, listening_eq_none.mpr h]

@[simp] theorem receiveBytes_nil (t : Time) (l : LineIx) (s : State) : receiveBytes t l [] s = s.advance t := rfl

/-- The bytes of a command act one after the other. -/
@[simp] theorem receiveBytes_cons (t : Time) (l : LineIx) (h : HeardByte) (rest : List HeardByte) (s : State) :
    receiveBytes t l (h :: rest) s = receiveBytes t l rest (receiveByte l h.byte (s.advance (t - h.ago))) := rfl

/-- Bytes received while the line listens for nothing are discarded (R74). -/
theorem receiveBytes_deaf {t : Time} {l : LineIx} (bytes : List HeardByte) :
    ∀ {s : State}, (∀ x soFar since, ¬hears s l x soFar since) → receiveBytes t l bytes s = s.advance t := by
  induction bytes with
  | nil => exact fun _ => rfl
  | cons h rest ih =>
    intro s hs
    have hs' : ∀ x soFar since, ¬hears (s.advance (t - h.ago)) l x soFar since := hs
    rw [receiveBytes_cons, receiveByte_deaf hs', ih hs']
    simp [State.advance]

theorem receiveAnswer_deaf {s : State} {l : LineIx} (h : ∀ x soFar since, ¬hears s l x soFar since) (drop : Byte)
    (a : NodeAnswer) : receiveAnswer l drop a s = s := by simp [receiveAnswer, listening_eq_none.mpr h]

/-- All that the frame of an answer can do while the line listens: it is taken up to the byte that ends it when it goes on with
the bytes received before and came in time (R74). -/
theorem receiveAnswer_eq {s : State} {l : LineIx} {x : Exchange} {soFar : List LineByte} {since : Time}
    (h : hears s l x soFar since) (drop : Byte) (a : NodeAnswer) :
    receiveAnswer l drop a s =
      (let whole := answerBytes a.type drop a.body
      let answer := whole.take (answerEnd whole)
      if soFar <+: whole ∧ 0 < answer.length - soFar.length ∧
          s.now < since + (answer.length - soFar.length) * (x.window + 40) then takeAnswer l x answer s
      else s) := by
  simp [receiveAnswer, listening_eq_some.mpr h, frame_clean, keepsUp]

/-- An answer with a body of at most 36 bytes is taken whole. -/
theorem receiveAnswer_fits {s : State} {l : LineIx} {x : Exchange} {soFar : List LineByte} {since : Time}
    (h : hears s l x soFar since) {drop : Byte} {a : NodeAnswer} (hb : a.body.length ≤ 36) :
    receiveAnswer l drop a s =
      if soFar <+: answerBytes a.type drop a.body ∧ 0 < (answerBytes a.type drop a.body).length - soFar.length ∧
          s.now < since + ((answerBytes a.type drop a.body).length - soFar.length) * (x.window + 40) then
        takeAnswer l x (answerBytes a.type drop a.body) s
      else s := by
  have := receiveAnswer_eq h drop a
  dsimp only at this
  rwa [answerEnd_frame a drop hb, List.take_length] at this

/-- The last byte of an answer's frame does what the answer does. -/
theorem receiveByte_last {s : State} {l : LineIx} {x : Exchange} {soFar : List LineByte} {since : Time}
    (h : hears s l x soFar since) {drop : Byte} {a : NodeAnswer} {byte : LineByte} (hb : a.body.length ≤ 36)
    (hw : soFar ++ [byte] = answerBytes a.type drop a.body) : receiveByte l byte s = receiveAnswer l drop a s := by
  rw [receiveByte_eq h, receiveAnswer_fits h hb, ← hw]
  simp

/-- An answer that a line takes whole ends its exchange as its fields are judged (R74, R75, R76). -/
theorem receiveAnswer_whole {s : State} {t : Time} {l : LineIx} {x : Exchange} {drop : Byte} {a : NodeAnswer}
    (h : s.takesWhole t l x (answerBytes a.type drop a.body)) (hb : a.body.length ≤ 36) :
    receiveAnswer l drop a (s.advance t) =
      retest (s.advance t) (endAnswer l x (s.advance t) (judgeAnswer x drop a)) := by
  obtain ⟨soFar, since, hh, hp, hl, hn⟩ := h
  have hh' : hears (s.advance t) l x soFar since := hh
  rw [receiveAnswer_fits hh' hb]
  refine (if_pos ⟨hp, Nat.sub_pos_of_lt hl, hn⟩).trans ?_
  rw [takeAnswer_ended (answerEnd_frame a drop hb).le, judgeReceived_frame x drop a hb]

end Sys2Proof.Machine
end

