-- ==== Sys2Proof/Laws/Buffer.lean ====
section
/-! SUPPORT. Laws/Buffer.lean: the read buffer as a store of bytes: the canonical form is kept by every write, a byte read
after it was written is the byte written, and every other byte is as it was. -/

namespace Sys2Proof.Machine

/-! ## The canonical form -/

theorem bufferWfFrom_mono {low low' : Nat} (h : low' ≤ low) {m : List Host.Cell} (hm : bufferWfFrom low m) :
    bufferWfFrom low' m := by
  cases m with
  | nil => rfl
  | cons c rest =>
    simp only [bufferWfFrom, Bool.and_eq_true, decide_eq_true_eq] at hm ⊢
    exact ⟨⟨le_trans h hm.1.1, hm.1.2⟩, hm.2⟩

theorem bufferCons_wf {low a : Nat} {v : Byte} {rest : List Host.Cell} (ha : low ≤ a) (hr : bufferWfFrom (a + 1) rest) :
    bufferWfFrom low (bufferCons a v rest) := by
  unfold bufferCons
  split
  · exact bufferWfFrom_mono (by omega) hr
  · next hv =>
    simp only [bufferWfFrom, Bool.and_eq_true, decide_eq_true_eq, bne_iff_ne]
    exact ⟨⟨ha, hv⟩, hr⟩

theorem bufferWrite_wfFrom {m : List Host.Cell} : ∀ {low a : Nat} {v : Byte}, low ≤ a → bufferWfFrom low m →
    bufferWfFrom low (bufferWrite m a v) := by
  induction m with
  | nil => intro low a v ha _; exact bufferCons_wf ha rfl
  | cons c rest ih =>
    intro low a v ha hm
    obtain ⟨b, w⟩ := c
    simp only [bufferWfFrom, Bool.and_eq_true, decide_eq_true_eq] at hm
    unfold bufferWrite
    split
    · next h => subst h; exact bufferCons_wf ha hm.2
    · split
      · next h1 h2 =>
        refine bufferCons_wf ha ?_
        simp only [bufferWfFrom, Bool.and_eq_true, decide_eq_true_eq]
        exact ⟨⟨h2, hm.1.2⟩, hm.2⟩
      · next h1 h2 =>
        simp only [bufferWfFrom, Bool.and_eq_true, decide_eq_true_eq]
        exact ⟨hm.1, ih (by omega) hm.2⟩

/-- A write keeps the canonical form. -/
theorem bufferWrite_wf {m : List Host.Cell} (a : Nat) (v : Byte) (hm : bufferWf m) : bufferWf (bufferWrite m a v) :=
  bufferWrite_wfFrom (Nat.zero_le a) hm

/-- The placing of a segment's bytes keeps the canonical form. -/
theorem storeBytes_wf (blocks : List BlockIx) {data : List Byte} : ∀ (pos : Nat) {m : List Host.Cell}, bufferWf m →
    bufferWf (storeBytes blocks pos data m) := by
  induction data with
  | nil => intro pos m hm; exact hm
  | cons b rest ih => intro pos m hm; exact ih (pos + 1) (bufferWrite_wf _ b hm)

/-! ## Reading after writing -/

theorem bufferRead_below {m : List Host.Cell} : ∀ {low a : Nat}, bufferWfFrom low m → a < low →
    bufferRead m a = blankByte := by
  induction m with
  | nil => intros; rfl
  | cons c rest _ =>
    intro low a hm ha
    obtain ⟨b, w⟩ := c
    simp only [bufferWfFrom, Bool.and_eq_true, decide_eq_true_eq] at hm
    have hb : a < b := lt_of_lt_of_le ha hm.1.1
    simp [bufferRead, hb.ne, hb]

theorem bufferRead_cons {a : Nat} {v : Byte} {rest : List Host.Cell} (hr : bufferWfFrom (a + 1) rest) (c : Nat)
    (hc : ¬ a < c) : bufferRead (bufferCons a v rest) c = if c = a then v else blankByte := by
  unfold bufferCons
  split
  · next hv =>
    rw [bufferRead_below hr (by omega)]
    split <;> simp [hv]
  · simp only [bufferRead]
    split
    · rfl
    · rw [if_pos (by omega)]

theorem bufferRead_cons_above {a : Nat} {v : Byte} {rest : List Host.Cell} (c : Nat) (hc : a < c) :
    bufferRead (bufferCons a v rest) c = bufferRead rest c := by
  unfold bufferCons
  split
  · rfl
  · simp only [bufferRead]
    rw [if_neg (by omega), if_neg (by omega)]

theorem bufferRead_write_from {m : List Host.Cell} : ∀ {low : Nat} (a : Nat) (v : Byte) (c : Nat), bufferWfFrom low m →
    bufferRead (bufferWrite m a v) c = if c = a then v else bufferRead m c := by
  induction m with
  | nil =>
    intro low a v c _
    by_cases h : a < c
    · rw [bufferWrite, bufferRead_cons_above c h, if_neg (by omega)]
    · rw [bufferWrite, bufferRead_cons rfl c h]; rfl
  | cons cell rest ih =>
    intro low a v c hm
    obtain ⟨b, w⟩ := cell
    simp only [bufferWfFrom, Bool.and_eq_true, decide_eq_true_eq] at hm
    unfold bufferWrite
    split
    · next h =>
      subst h
      by_cases hc : a < c
      · rw [bufferRead_cons_above c hc, if_neg (by omega)]
        simp only [bufferRead]
        rw [if_neg (by omega), if_neg (by omega)]
      · rw [bufferRead_cons hm.2 c hc]
        split
        · rfl
        · simp only [bufferRead]; rw [if_neg (by omega), if_pos (by omega)]
    · split
      · next h1 h2 =>
        have hr : bufferWfFrom (a + 1) ((b, w) :: rest) := by
          simp only [bufferWfFrom, Bool.and_eq_true, decide_eq_true_eq]; exact ⟨⟨h2, hm.1.2⟩, hm.2⟩
        by_cases hc : a < c
        · rw [bufferRead_cons_above c hc, if_neg (by omega)]
        · rw [bufferRead_cons hr c hc]
          split
          · rfl
          · simp only [bufferRead]; rw [if_neg (by omega), if_pos (by omega)]
      · next h1 h2 =>
        have := ih a v c hm.2
        simp only [bufferRead]
        split
        · next h => subst h; rw [if_neg (by omega)]
        · split
          · rw [if_neg (by omega)]
          · exact this

/-- A byte read after a write is the byte written at its address, and as it was at every other. -/
theorem bufferRead_write {m : List Host.Cell} (a : Nat) (v : Byte) (c : Nat) (hm : bufferWf m) :
    bufferRead (bufferWrite m a v) c = if c = a then v else bufferRead m c :=
  bufferRead_write_from a v c hm

/-- The placing of bytes leaves every byte alone that is at none of the addresses it writes. -/
theorem bufferRead_storeBytes_frame (blocks : List BlockIx) {data : List Byte} (c : Nat) :
    ∀ (pos : Nat) {m : List Host.Cell}, bufferWf m →
      (∀ k < data.length, blockAddress blocks (pos + k) ≠ c) →
      bufferRead (storeBytes blocks pos data m) c = bufferRead m c := by
  induction data with
  | nil => intros; rfl
  | cons b rest ih =>
    intro pos m hm hne
    rw [storeBytes, ih (pos + 1) (bufferWrite_wf _ b hm), bufferRead_write _ _ _ hm, if_neg]
    · exact fun h => hne 0 (by simp) h.symm
    · intro k hk
      have := hne (k + 1) (by simpa using hk)
      rwa [show pos + 1 + k = pos + (k + 1) by omega]

/-! ## Addresses -/

/-- The places of a read stand in its blocks, 16 bytes each (R37). -/
theorem blockAddress_block (blocks : List BlockIx) (pos : Nat) :
    blockAddress blocks pos / blockBytes = (blocks.getD (pos / blockBytes) 0).val := by
  unfold blockAddress
  show (_ * 16 + _) / 16 = _
  have : pos % 16 < 16 := Nat.mod_lt _ (by omega)
  show ((blocks.getD (pos / 16) 0).val * 16 + pos % 16) / 16 = (blocks.getD (pos / 16) 0).val
  omega

end Sys2Proof.Machine
end

