-- ==== Sys2Proof/Laws/Decide.lean ====
section
/-! SUPPORT. Laws/Decide.lean: each law of Safety.lean is decided by evaluating it, so that a test can show a concrete state to be
lawful. -/

namespace Sys2Proof.Machine

/-- A property of what an `Option` holds, when it holds something. -/
def decideHeld {α : Type} (o : Option α) (P : α → Prop) (d : ∀ a, Decidable (P a)) : Decidable (∀ a ∈ o, P a) :=
  match o with
  | none => isTrue (by simp)
  | some a =>
    match d a with
    | isTrue h => isTrue (by simpa using h)
    | isFalse h => isFalse (by simpa using h)

/-- A property of what an `Option` holds, which it must hold. -/
def decideSome {α : Type} (o : Option α) (P : α → Prop) (d : ∀ a, Decidable (P a)) : Decidable (∃ a ∈ o, P a) :=
  match o with
  | none => isFalse (by simp)
  | some a =>
    match d a with
    | isTrue h => isTrue ⟨a, rfl, h⟩
    | isFalse h => isFalse (by simpa using h)

def decideKindLaw (e : Entry) : Decidable e.kindLaw := by
  unfold Entry.kindLaw
  cases e.kind <;> exact inferInstance

def decidePhaseLaw (e : Entry) : Decidable e.phaseLaw := by
  unfold Entry.phaseLaw
  cases e.phase <;> exact inferInstance

def decideEntry (e : Entry) : Decidable e.lawful :=
  have := decideKindLaw e
  have := decidePhaseLaw e
  inferInstanceAs (Decidable (_ ∧ _ ∧ _ ∧ _ ∧ _))

def decideTableLaw (s : State) : Decidable (TableLaw s) :=
  have := fun i => decideHeld (s.entry i) Entry.lawful decideEntry
  have := fun i j => decideHeld (s.entry i)
    (fun e => ∀ f ∈ s.entry j, e.port = f.port → e.tag = f.tag → i = j)
    fun _ => decideHeld _ _ fun _ => inferInstance
  inferInstanceAs (Decidable (_ ∧ _))

def decideQueueHolds (s : State) (queue : List EntryIx) (f : Entry → Bool) : Decidable (QueueHolds s queue f) :=
  inferInstanceAs (Decidable (_ ∧ _))

def decideQueueLaw (s : State) : Decidable (QueueLaw s) :=
  have := decideQueueHolds s
  have := fun n => decideHeld (s.bound n)
    (fun b => QueueHolds s b.issueQueue fun e => e.node == n && e.phase == .ready) fun _ => decideQueueHolds s _ _
  inferInstanceAs (Decidable (_ ∧ _ ∧ _ ∧ _))

def decideAdmissionLaw (s : State) : Decidable (AdmissionLaw s) :=
  have := decideHeld s.admission.head? (fun i => ∀ e ∈ s.entry i, fits s e.need = false)
    fun _ => decideHeld _ _ fun _ => inferInstance
  inferInstanceAs (Decidable (_ ∧ _))

def decideBufferLaw (s : State) : Decidable (BufferLaw s) := inferInstanceAs (Decidable (_ ∧ _))

def decideBoundNode (b : BoundNode) : Decidable b.lawful :=
  have := decideHeld b.advert (fun a => 1 ≤ a.window ∧ a.window ≤ 8) fun _ => inferInstance
  have := decideHeld b.pendingAck (fun a => a.nextOffset ≤ 256) fun _ => inferInstance
  inferInstanceAs (Decidable (_ ∧ _ ∧ _ ∧ _ ∧ _ ∧ _ ∧ _ ∧ _))

def decideNodeCounters (c : NodeCounters) : Decidable c.lawful := inferInstanceAs (Decidable (_ ∧ _))

def decideNodeLaw (s : State) : Decidable (NodeLaw s) :=
  have := decideNodeCounters
  have := fun n => decideHeld (s.bound n) BoundNode.lawful decideBoundNode
  have := fun n m => decideHeld (s.bound n)
    (fun b => ∀ c ∈ s.bound m, b.line = c.line → b.drop = c.drop → n = m) fun _ => decideHeld _ _ fun _ => inferInstance
  have := fun i => decideHeld (s.entry i) (fun e => e.phase.isOpen → ∃ b ∈ s.bound e.node, b.health ≠ .offline)
    fun e => have := decideSome (s.bound e.node) (fun b => b.health ≠ .offline) fun _ => inferInstance
      inferInstance
  have := fun i => decideHeld (s.entry i) (fun e => e.phase.liveSeq.isSome → ∃ b ∈ s.bound e.node, b.health.inService)
    fun e => have := decideSome (s.bound e.node) (fun b => b.health.inService) fun _ => inferInstance
      inferInstance
  inferInstanceAs (Decidable (_ ∧ _ ∧ _ ∧ _))

def decideSeqLaw (s : State) : Decidable (SeqLaw s) :=
  have := fun n => decideHeld (s.bound n) (fun b => (s.usedSeqs n b).Nodup ∧ (s.usedSeqs n b).length ≤ 8)
    fun _ => inferInstance
  have := fun i => decideHeld (s.entry i)
    (fun e => e.phase.issuingSeq.isSome → ∃ b ∈ s.bound e.node, b.issuingSeq = e.phase.issuingSeq)
    fun e => have := decideSome (s.bound e.node) (fun b => b.issuingSeq = e.phase.issuingSeq) fun _ => inferInstance
      inferInstance
  have := fun i j => decideHeld (s.entry i)
    (fun e => ∀ f ∈ s.entry j, e.phase.issuingSeq.isSome → f.phase.issuingSeq.isSome → e.node = f.node → i = j)
    fun _ => decideHeld _ _ fun _ => inferInstance
  inferInstanceAs (Decidable (_ ∧ _ ∧ _))

def decideAddresses (s : State) (l : LineIx) (x : Exchange) : Decidable (x.addresses s l) :=
  decideSome (s.bound x.node) _ fun b =>
    match x.kind with
    | .reset => inferInstanceAs (Decidable (_ ∧ _ ∧ b.health.same (.probing none) = true))
    | .poll =>
      have := decideHeld b.pendingAck (fun a => x.ack = some a) fun _ => inferInstance
      inferInstanceAs (Decidable (_ ∧ _ ∧ b.health.inService = true ∧ ∀ a ∈ b.pendingAck, x.ack = some a))
    | .request seq =>
      have := decideHeld b.pendingAck (fun a => x.ack = some a) fun _ => inferInstance
      inferInstanceAs (Decidable (_ ∧ _ ∧ b.health ≠ .offline ∧ b.issuingSeq = some seq ∧ ∀ a ∈ b.pendingAck, x.ack = some a))

def decidePhase (r : AttemptPhase) : Decidable r.lawful := by
  unfold AttemptPhase.lawful
  cases r <;> exact inferInstance

def decideExchange (s : State) (l : LineIx) (pend : Bool) (x : Exchange) : Decidable (x.lawful s l pend) :=
  have := decideAddresses s l x
  have := decidePhase x.phase
  inferInstanceAs (Decidable (_ ∧ _ ∧ _ ∧ _ ∧ _ ∧ _ ∧ _ ∧ _))

def decideLineCounters (c : LineCounters) : Decidable c.lawful := inferInstanceAs (Decidable (_ ∧ _))

def decideLineState (s : State) (l : LineIx) (r : LineState) : Decidable (r.lawful s l) :=
  match r with
  | .disabled =>
    have := fun n => decideHeld (s.bound n) (fun b => b.line = l → b.health = .offline) fun _ => inferInstance
    inferInstanceAs (Decidable (_ ∧ _))
  | .idle => inferInstanceAs (Decidable (_ = _))
  | .exchanging pend x => decideExchange s l pend x

def decideLineLaw (s : State) : Decidable (LineLaw s) :=
  have := decideLineCounters
  have := decideLineState s
  have := fun n => decideHeld (s.bound n)
    (fun b => ∀ seq ∈ b.issuingSeq, (s.line b.line).state.runs fun x => x.node == n && x.kind == .request seq)
    fun _ => decideHeld _ _ fun _ => inferInstance
  have := fun n => decideHeld (s.bound n)
    (fun b => b.health = .probing none → (s.line b.line).state.runs fun x => x.node == n && x.kind == .reset)
    fun _ => inferInstance
  inferInstanceAs (Decidable (_ ∧ _ ∧ _))

def decideReceiver (r : Receiver) : Decidable r.lawful := by
  unfold Receiver.lawful
  cases r <;> exact inferInstance

def decidePort (r : PortRec) : Decidable r.lawful :=
  have := decideReceiver r.receiver
  have := decideHeld r.readMarker (fun marked => r.receiver.hasExecuted ∧ ∀ ev ∈ marked, ev ∈ r.events)
    fun _ => inferInstance
  have := decideHeld r.collect (fun m => r.receiver.hasExecuted ∧ r.completion.head? = some m.entry)
    fun _ => inferInstance
  inferInstanceAs (Decidable (_ ∧ _ ∧ _ ∧ _ ∧ _ ∧ _ ∧ _ ∧ _ ∧ _ ∧ _))

def decidePortLaw (s : State) : Decidable (PortLaw s) :=
  have := decidePort
  inferInstanceAs (Decidable (_ ∧ _ ∧ _))

def decideNodeParams (r : NodeParams) : Decidable r.lawful := inferInstanceAs (Decidable (_ ∧ _))

def decideGlobalParams (r : GlobalParams) : Decidable r.lawful := inferInstanceAs (Decidable (_ ∧ _))

def decideParamLaw (s : State) : Decidable (ParamLaw s) :=
  have := decideNodeParams
  have := decideGlobalParams
  inferInstanceAs (Decidable (_ ∧ _))

/-- Whether a state is lawful. -/
def decideLawful (s : State) : Decidable (Lawful s) :=
  have := decideTableLaw s
  have := decideQueueLaw s
  have := decideAdmissionLaw s
  have := decideBufferLaw s
  have := decideNodeLaw s
  have := decideSeqLaw s
  have := decideLineLaw s
  have := decidePortLaw s
  have := decideParamLaw s
  inferInstanceAs (Decidable (_ ∧ _ ∧ _ ∧ _ ∧ _ ∧ _ ∧ _ ∧ _ ∧ _))

/-- A state that the evaluation finds lawful. -/
theorem lawful_of_decide {s : State} (h : (decideLawful s).decide = true) : Lawful s :=
  @of_decide_eq_true (Lawful s) (decideLawful s) h

end Sys2Proof.Machine
end

