-- ==== Sys2Proof/Laws/State.lean ====
section
/-! SUPPORT. Laws/State.lean: what each named update of Machine/Ops.lean leaves in each field and each accessor, so that no
later proof unfolds a record update. -/

namespace Sys2Proof.Machine

/-! ## setEntry -/

@[simp] theorem State.setEntry_now (s : State) (i : EntryIx) (o : Option Entry) : (s.setEntry i o).now = s.now := rfl
@[simp] theorem State.setEntry_rstnLow (s : State) (i : EntryIx) (o : Option Entry) : (s.setEntry i o).rstnLow = s.rstnLow := rfl
@[simp] theorem State.setEntry_admission (s : State) (i : EntryIx) (o : Option Entry) : (s.setEntry i o).admission = s.admission := rfl
@[simp] theorem State.setEntry_nodes (s : State) (i : EntryIx) (o : Option Entry) : (s.setEntry i o).nodes = s.nodes := rfl
@[simp] theorem State.setEntry_lines (s : State) (i : EntryIx) (o : Option Entry) : (s.setEntry i o).lines = s.lines := rfl
@[simp] theorem State.setEntry_portA (s : State) (i : EntryIx) (o : Option Entry) : (s.setEntry i o).portA = s.portA := rfl
@[simp] theorem State.setEntry_portB (s : State) (i : EntryIx) (o : Option Entry) : (s.setEntry i o).portB = s.portB := rfl
@[simp] theorem State.setEntry_params (s : State) (i : EntryIx) (o : Option Entry) : (s.setEntry i o).params = s.params := rfl
@[simp] theorem State.setEntry_buffer (s : State) (i : EntryIx) (o : Option Entry) : (s.setEntry i o).buffer = s.buffer := rfl
@[simp] theorem State.setEntry_stamp (s : State) (i : EntryIx) (o : Option Entry) : (s.setEntry i o).stamp = s.stamp := rfl
@[simp] theorem State.setEntry_pending (s : State) (i : EntryIx) (o : Option Entry) : (s.setEntry i o).pending = s.pending := rfl
@[simp] theorem State.setEntry_node (s : State) (i : EntryIx) (o : Option Entry) (m : NodeIx) : (s.setEntry i o).node m = s.node m := rfl
@[simp] theorem State.setEntry_bound (s : State) (i : EntryIx) (o : Option Entry) (m : NodeIx) : (s.setEntry i o).bound m = s.bound m := rfl
@[simp] theorem State.setEntry_line (s : State) (i : EntryIx) (o : Option Entry) (k : LineIx) : (s.setEntry i o).line k = s.line k := rfl
@[simp] theorem State.setEntry_port (s : State) (i : EntryIx) (o : Option Entry) (q : Port) : (s.setEntry i o).port q = s.port q := by cases q <;> rfl
@[simp] theorem State.setEntry_lineEnabled (s : State) (i : EntryIx) (o : Option Entry) (k : LineIx) : (s.setEntry i o).lineEnabled k = s.lineEnabled k := rfl
@[simp] theorem State.setEntry_ceiling (s : State) (i : EntryIx) (o : Option Entry) (q : Port) : (s.setEntry i o).ceiling q = s.ceiling q := by cases q <;> rfl

/-! ## modEntry -/

@[simp] theorem State.modEntry_now (s : State) (i : EntryIx) (f : Entry → Entry) : (s.modEntry i f).now = s.now := rfl
@[simp] theorem State.modEntry_rstnLow (s : State) (i : EntryIx) (f : Entry → Entry) : (s.modEntry i f).rstnLow = s.rstnLow := rfl
@[simp] theorem State.modEntry_admission (s : State) (i : EntryIx) (f : Entry → Entry) : (s.modEntry i f).admission = s.admission := rfl
@[simp] theorem State.modEntry_nodes (s : State) (i : EntryIx) (f : Entry → Entry) : (s.modEntry i f).nodes = s.nodes := rfl
@[simp] theorem State.modEntry_lines (s : State) (i : EntryIx) (f : Entry → Entry) : (s.modEntry i f).lines = s.lines := rfl
@[simp] theorem State.modEntry_portA (s : State) (i : EntryIx) (f : Entry → Entry) : (s.modEntry i f).portA = s.portA := rfl
@[simp] theorem State.modEntry_portB (s : State) (i : EntryIx) (f : Entry → Entry) : (s.modEntry i f).portB = s.portB := rfl
@[simp] theorem State.modEntry_params (s : State) (i : EntryIx) (f : Entry → Entry) : (s.modEntry i f).params = s.params := rfl
@[simp] theorem State.modEntry_buffer (s : State) (i : EntryIx) (f : Entry → Entry) : (s.modEntry i f).buffer = s.buffer := rfl
@[simp] theorem State.modEntry_stamp (s : State) (i : EntryIx) (f : Entry → Entry) : (s.modEntry i f).stamp = s.stamp := rfl
@[simp] theorem State.modEntry_pending (s : State) (i : EntryIx) (f : Entry → Entry) : (s.modEntry i f).pending = s.pending := rfl
@[simp] theorem State.modEntry_node (s : State) (i : EntryIx) (f : Entry → Entry) (m : NodeIx) : (s.modEntry i f).node m = s.node m := rfl
@[simp] theorem State.modEntry_bound (s : State) (i : EntryIx) (f : Entry → Entry) (m : NodeIx) : (s.modEntry i f).bound m = s.bound m := rfl
@[simp] theorem State.modEntry_line (s : State) (i : EntryIx) (f : Entry → Entry) (k : LineIx) : (s.modEntry i f).line k = s.line k := rfl
@[simp] theorem State.modEntry_port (s : State) (i : EntryIx) (f : Entry → Entry) (q : Port) : (s.modEntry i f).port q = s.port q := by cases q <;> rfl
@[simp] theorem State.modEntry_lineEnabled (s : State) (i : EntryIx) (f : Entry → Entry) (k : LineIx) : (s.modEntry i f).lineEnabled k = s.lineEnabled k := rfl
@[simp] theorem State.modEntry_ceiling (s : State) (i : EntryIx) (f : Entry → Entry) (q : Port) : (s.modEntry i f).ceiling q = s.ceiling q := by cases q <;> rfl

/-! ## setNode -/

@[simp] theorem State.setNode_now (s : State) (n : NodeIx) (r : NodeRec) : (s.setNode n r).now = s.now := rfl
@[simp] theorem State.setNode_rstnLow (s : State) (n : NodeIx) (r : NodeRec) : (s.setNode n r).rstnLow = s.rstnLow := rfl
@[simp] theorem State.setNode_table (s : State) (n : NodeIx) (r : NodeRec) : (s.setNode n r).table = s.table := rfl
@[simp] theorem State.setNode_admission (s : State) (n : NodeIx) (r : NodeRec) : (s.setNode n r).admission = s.admission := rfl
@[simp] theorem State.setNode_lines (s : State) (n : NodeIx) (r : NodeRec) : (s.setNode n r).lines = s.lines := rfl
@[simp] theorem State.setNode_portA (s : State) (n : NodeIx) (r : NodeRec) : (s.setNode n r).portA = s.portA := rfl
@[simp] theorem State.setNode_portB (s : State) (n : NodeIx) (r : NodeRec) : (s.setNode n r).portB = s.portB := rfl
@[simp] theorem State.setNode_params (s : State) (n : NodeIx) (r : NodeRec) : (s.setNode n r).params = s.params := rfl
@[simp] theorem State.setNode_buffer (s : State) (n : NodeIx) (r : NodeRec) : (s.setNode n r).buffer = s.buffer := rfl
@[simp] theorem State.setNode_stamp (s : State) (n : NodeIx) (r : NodeRec) : (s.setNode n r).stamp = s.stamp := rfl
@[simp] theorem State.setNode_pending (s : State) (n : NodeIx) (r : NodeRec) : (s.setNode n r).pending = s.pending := rfl
@[simp] theorem State.setNode_entry (s : State) (n : NodeIx) (r : NodeRec) (j : EntryIx) : (s.setNode n r).entry j = s.entry j := rfl
@[simp] theorem State.setNode_line (s : State) (n : NodeIx) (r : NodeRec) (k : LineIx) : (s.setNode n r).line k = s.line k := rfl
@[simp] theorem State.setNode_port (s : State) (n : NodeIx) (r : NodeRec) (q : Port) : (s.setNode n r).port q = s.port q := by cases q <;> rfl
@[simp] theorem State.setNode_lineEnabled (s : State) (n : NodeIx) (r : NodeRec) (k : LineIx) : (s.setNode n r).lineEnabled k = s.lineEnabled k := rfl
@[simp] theorem State.setNode_ceiling (s : State) (n : NodeIx) (r : NodeRec) (q : Port) : (s.setNode n r).ceiling q = s.ceiling q := by cases q <;> rfl

/-! ## modNode -/

@[simp] theorem State.modNode_now (s : State) (n : NodeIx) (f : NodeRec → NodeRec) : (s.modNode n f).now = s.now := rfl
@[simp] theorem State.modNode_rstnLow (s : State) (n : NodeIx) (f : NodeRec → NodeRec) : (s.modNode n f).rstnLow = s.rstnLow := rfl
@[simp] theorem State.modNode_table (s : State) (n : NodeIx) (f : NodeRec → NodeRec) : (s.modNode n f).table = s.table := rfl
@[simp] theorem State.modNode_admission (s : State) (n : NodeIx) (f : NodeRec → NodeRec) : (s.modNode n f).admission = s.admission := rfl
@[simp] theorem State.modNode_lines (s : State) (n : NodeIx) (f : NodeRec → NodeRec) : (s.modNode n f).lines = s.lines := rfl
@[simp] theorem State.modNode_portA (s : State) (n : NodeIx) (f : NodeRec → NodeRec) : (s.modNode n f).portA = s.portA := rfl
@[simp] theorem State.modNode_portB (s : State) (n : NodeIx) (f : NodeRec → NodeRec) : (s.modNode n f).portB = s.portB := rfl
@[simp] theorem State.modNode_params (s : State) (n : NodeIx) (f : NodeRec → NodeRec) : (s.modNode n f).params = s.params := rfl
@[simp] theorem State.modNode_buffer (s : State) (n : NodeIx) (f : NodeRec → NodeRec) : (s.modNode n f).buffer = s.buffer := rfl
@[simp] theorem State.modNode_stamp (s : State) (n : NodeIx) (f : NodeRec → NodeRec) : (s.modNode n f).stamp = s.stamp := rfl
@[simp] theorem State.modNode_pending (s : State) (n : NodeIx) (f : NodeRec → NodeRec) : (s.modNode n f).pending = s.pending := rfl
@[simp] theorem State.modNode_entry (s : State) (n : NodeIx) (f : NodeRec → NodeRec) (j : EntryIx) : (s.modNode n f).entry j = s.entry j := rfl
@[simp] theorem State.modNode_line (s : State) (n : NodeIx) (f : NodeRec → NodeRec) (k : LineIx) : (s.modNode n f).line k = s.line k := rfl
@[simp] theorem State.modNode_port (s : State) (n : NodeIx) (f : NodeRec → NodeRec) (q : Port) : (s.modNode n f).port q = s.port q := by cases q <;> rfl
@[simp] theorem State.modNode_lineEnabled (s : State) (n : NodeIx) (f : NodeRec → NodeRec) (k : LineIx) : (s.modNode n f).lineEnabled k = s.lineEnabled k := rfl
@[simp] theorem State.modNode_ceiling (s : State) (n : NodeIx) (f : NodeRec → NodeRec) (q : Port) : (s.modNode n f).ceiling q = s.ceiling q := by cases q <;> rfl

/-! ## modBound -/

@[simp] theorem State.modBound_now (s : State) (n : NodeIx) (f : BoundNode → BoundNode) : (s.modBound n f).now = s.now := rfl
@[simp] theorem State.modBound_rstnLow (s : State) (n : NodeIx) (f : BoundNode → BoundNode) : (s.modBound n f).rstnLow = s.rstnLow := rfl
@[simp] theorem State.modBound_table (s : State) (n : NodeIx) (f : BoundNode → BoundNode) : (s.modBound n f).table = s.table := rfl
@[simp] theorem State.modBound_admission (s : State) (n : NodeIx) (f : BoundNode → BoundNode) : (s.modBound n f).admission = s.admission := rfl
@[simp] theorem State.modBound_lines (s : State) (n : NodeIx) (f : BoundNode → BoundNode) : (s.modBound n f).lines = s.lines := rfl
@[simp] theorem State.modBound_portA (s : State) (n : NodeIx) (f : BoundNode → BoundNode) : (s.modBound n f).portA = s.portA := rfl
@[simp] theorem State.modBound_portB (s : State) (n : NodeIx) (f : BoundNode → BoundNode) : (s.modBound n f).portB = s.portB := rfl
@[simp] theorem State.modBound_params (s : State) (n : NodeIx) (f : BoundNode → BoundNode) : (s.modBound n f).params = s.params := rfl
@[simp] theorem State.modBound_buffer (s : State) (n : NodeIx) (f : BoundNode → BoundNode) : (s.modBound n f).buffer = s.buffer := rfl
@[simp] theorem State.modBound_stamp (s : State) (n : NodeIx) (f : BoundNode → BoundNode) : (s.modBound n f).stamp = s.stamp := rfl
@[simp] theorem State.modBound_pending (s : State) (n : NodeIx) (f : BoundNode → BoundNode) : (s.modBound n f).pending = s.pending := rfl
@[simp] theorem State.modBound_entry (s : State) (n : NodeIx) (f : BoundNode → BoundNode) (j : EntryIx) : (s.modBound n f).entry j = s.entry j := rfl
@[simp] theorem State.modBound_line (s : State) (n : NodeIx) (f : BoundNode → BoundNode) (k : LineIx) : (s.modBound n f).line k = s.line k := rfl
@[simp] theorem State.modBound_port (s : State) (n : NodeIx) (f : BoundNode → BoundNode) (q : Port) : (s.modBound n f).port q = s.port q := by cases q <;> rfl
@[simp] theorem State.modBound_lineEnabled (s : State) (n : NodeIx) (f : BoundNode → BoundNode) (k : LineIx) : (s.modBound n f).lineEnabled k = s.lineEnabled k := rfl
@[simp] theorem State.modBound_ceiling (s : State) (n : NodeIx) (f : BoundNode → BoundNode) (q : Port) : (s.modBound n f).ceiling q = s.ceiling q := by cases q <;> rfl

/-! ## setLine -/

@[simp] theorem State.setLine_now (s : State) (l : LineIx) (r : LineRec) : (s.setLine l r).now = s.now := rfl
@[simp] theorem State.setLine_rstnLow (s : State) (l : LineIx) (r : LineRec) : (s.setLine l r).rstnLow = s.rstnLow := rfl
@[simp] theorem State.setLine_table (s : State) (l : LineIx) (r : LineRec) : (s.setLine l r).table = s.table := rfl
@[simp] theorem State.setLine_admission (s : State) (l : LineIx) (r : LineRec) : (s.setLine l r).admission = s.admission := rfl
@[simp] theorem State.setLine_nodes (s : State) (l : LineIx) (r : LineRec) : (s.setLine l r).nodes = s.nodes := rfl
@[simp] theorem State.setLine_portA (s : State) (l : LineIx) (r : LineRec) : (s.setLine l r).portA = s.portA := rfl
@[simp] theorem State.setLine_portB (s : State) (l : LineIx) (r : LineRec) : (s.setLine l r).portB = s.portB := rfl
@[simp] theorem State.setLine_params (s : State) (l : LineIx) (r : LineRec) : (s.setLine l r).params = s.params := rfl
@[simp] theorem State.setLine_buffer (s : State) (l : LineIx) (r : LineRec) : (s.setLine l r).buffer = s.buffer := rfl
@[simp] theorem State.setLine_stamp (s : State) (l : LineIx) (r : LineRec) : (s.setLine l r).stamp = s.stamp := rfl
@[simp] theorem State.setLine_pending (s : State) (l : LineIx) (r : LineRec) : (s.setLine l r).pending = s.pending := rfl
@[simp] theorem State.setLine_entry (s : State) (l : LineIx) (r : LineRec) (j : EntryIx) : (s.setLine l r).entry j = s.entry j := rfl
@[simp] theorem State.setLine_node (s : State) (l : LineIx) (r : LineRec) (m : NodeIx) : (s.setLine l r).node m = s.node m := rfl
@[simp] theorem State.setLine_bound (s : State) (l : LineIx) (r : LineRec) (m : NodeIx) : (s.setLine l r).bound m = s.bound m := rfl
@[simp] theorem State.setLine_port (s : State) (l : LineIx) (r : LineRec) (q : Port) : (s.setLine l r).port q = s.port q := by cases q <;> rfl
@[simp] theorem State.setLine_lineEnabled (s : State) (l : LineIx) (r : LineRec) (k : LineIx) : (s.setLine l r).lineEnabled k = s.lineEnabled k := rfl
@[simp] theorem State.setLine_ceiling (s : State) (l : LineIx) (r : LineRec) (q : Port) : (s.setLine l r).ceiling q = s.ceiling q := by cases q <;> rfl

/-! ## modLine -/

@[simp] theorem State.modLine_now (s : State) (l : LineIx) (f : LineRec → LineRec) : (s.modLine l f).now = s.now := rfl
@[simp] theorem State.modLine_rstnLow (s : State) (l : LineIx) (f : LineRec → LineRec) : (s.modLine l f).rstnLow = s.rstnLow := rfl
@[simp] theorem State.modLine_table (s : State) (l : LineIx) (f : LineRec → LineRec) : (s.modLine l f).table = s.table := rfl
@[simp] theorem State.modLine_admission (s : State) (l : LineIx) (f : LineRec → LineRec) : (s.modLine l f).admission = s.admission := rfl
@[simp] theorem State.modLine_nodes (s : State) (l : LineIx) (f : LineRec → LineRec) : (s.modLine l f).nodes = s.nodes := rfl
@[simp] theorem State.modLine_portA (s : State) (l : LineIx) (f : LineRec → LineRec) : (s.modLine l f).portA = s.portA := rfl
@[simp] theorem State.modLine_portB (s : State) (l : LineIx) (f : LineRec → LineRec) : (s.modLine l f).portB = s.portB := rfl
@[simp] theorem State.modLine_params (s : State) (l : LineIx) (f : LineRec → LineRec) : (s.modLine l f).params = s.params := rfl
@[simp] theorem State.modLine_buffer (s : State) (l : LineIx) (f : LineRec → LineRec) : (s.modLine l f).buffer = s.buffer := rfl
@[simp] theorem State.modLine_stamp (s : State) (l : LineIx) (f : LineRec → LineRec) : (s.modLine l f).stamp = s.stamp := rfl
@[simp] theorem State.modLine_pending (s : State) (l : LineIx) (f : LineRec → LineRec) : (s.modLine l f).pending = s.pending := rfl
@[simp] theorem State.modLine_entry (s : State) (l : LineIx) (f : LineRec → LineRec) (j : EntryIx) : (s.modLine l f).entry j = s.entry j := rfl
@[simp] theorem State.modLine_node (s : State) (l : LineIx) (f : LineRec → LineRec) (m : NodeIx) : (s.modLine l f).node m = s.node m := rfl
@[simp] theorem State.modLine_bound (s : State) (l : LineIx) (f : LineRec → LineRec) (m : NodeIx) : (s.modLine l f).bound m = s.bound m := rfl
@[simp] theorem State.modLine_port (s : State) (l : LineIx) (f : LineRec → LineRec) (q : Port) : (s.modLine l f).port q = s.port q := by cases q <;> rfl
@[simp] theorem State.modLine_lineEnabled (s : State) (l : LineIx) (f : LineRec → LineRec) (k : LineIx) : (s.modLine l f).lineEnabled k = s.lineEnabled k := rfl
@[simp] theorem State.modLine_ceiling (s : State) (l : LineIx) (f : LineRec → LineRec) (q : Port) : (s.modLine l f).ceiling q = s.ceiling q := by cases q <;> rfl

/-! ## setPort -/

@[simp] theorem State.setPort_now (s : State) (p : Port) (r : PortRec) : (s.setPort p r).now = s.now := by cases p <;> rfl
@[simp] theorem State.setPort_rstnLow (s : State) (p : Port) (r : PortRec) : (s.setPort p r).rstnLow = s.rstnLow := by cases p <;> rfl
@[simp] theorem State.setPort_table (s : State) (p : Port) (r : PortRec) : (s.setPort p r).table = s.table := by cases p <;> rfl
@[simp] theorem State.setPort_admission (s : State) (p : Port) (r : PortRec) : (s.setPort p r).admission = s.admission := by cases p <;> rfl
@[simp] theorem State.setPort_nodes (s : State) (p : Port) (r : PortRec) : (s.setPort p r).nodes = s.nodes := by cases p <;> rfl
@[simp] theorem State.setPort_lines (s : State) (p : Port) (r : PortRec) : (s.setPort p r).lines = s.lines := by cases p <;> rfl
@[simp] theorem State.setPort_params (s : State) (p : Port) (r : PortRec) : (s.setPort p r).params = s.params := by cases p <;> rfl
@[simp] theorem State.setPort_buffer (s : State) (p : Port) (r : PortRec) : (s.setPort p r).buffer = s.buffer := by cases p <;> rfl
@[simp] theorem State.setPort_stamp (s : State) (p : Port) (r : PortRec) : (s.setPort p r).stamp = s.stamp := by cases p <;> rfl
@[simp] theorem State.setPort_pending (s : State) (p : Port) (r : PortRec) : (s.setPort p r).pending = s.pending := by cases p <;> rfl
@[simp] theorem State.setPort_entry (s : State) (p : Port) (r : PortRec) (j : EntryIx) : (s.setPort p r).entry j = s.entry j := by cases p <;> rfl
@[simp] theorem State.setPort_node (s : State) (p : Port) (r : PortRec) (m : NodeIx) : (s.setPort p r).node m = s.node m := by cases p <;> rfl
@[simp] theorem State.setPort_bound (s : State) (p : Port) (r : PortRec) (m : NodeIx) : (s.setPort p r).bound m = s.bound m := by cases p <;> rfl
@[simp] theorem State.setPort_line (s : State) (p : Port) (r : PortRec) (k : LineIx) : (s.setPort p r).line k = s.line k := by cases p <;> rfl
@[simp] theorem State.setPort_lineEnabled (s : State) (p : Port) (r : PortRec) (k : LineIx) : (s.setPort p r).lineEnabled k = s.lineEnabled k := by cases p <;> rfl
@[simp] theorem State.setPort_ceiling (s : State) (p : Port) (r : PortRec) (q : Port) : (s.setPort p r).ceiling q = s.ceiling q := by cases p <;> cases q <;> rfl

/-! ## modPort -/

@[simp] theorem State.modPort_now (s : State) (p : Port) (f : PortRec → PortRec) : (s.modPort p f).now = s.now := by cases p <;> rfl
@[simp] theorem State.modPort_rstnLow (s : State) (p : Port) (f : PortRec → PortRec) : (s.modPort p f).rstnLow = s.rstnLow := by cases p <;> rfl
@[simp] theorem State.modPort_table (s : State) (p : Port) (f : PortRec → PortRec) : (s.modPort p f).table = s.table := by cases p <;> rfl
@[simp] theorem State.modPort_admission (s : State) (p : Port) (f : PortRec → PortRec) : (s.modPort p f).admission = s.admission := by cases p <;> rfl
@[simp] theorem State.modPort_nodes (s : State) (p : Port) (f : PortRec → PortRec) : (s.modPort p f).nodes = s.nodes := by cases p <;> rfl
@[simp] theorem State.modPort_lines (s : State) (p : Port) (f : PortRec → PortRec) : (s.modPort p f).lines = s.lines := by cases p <;> rfl
@[simp] theorem State.modPort_params (s : State) (p : Port) (f : PortRec → PortRec) : (s.modPort p f).params = s.params := by cases p <;> rfl
@[simp] theorem State.modPort_buffer (s : State) (p : Port) (f : PortRec → PortRec) : (s.modPort p f).buffer = s.buffer := by cases p <;> rfl
@[simp] theorem State.modPort_stamp (s : State) (p : Port) (f : PortRec → PortRec) : (s.modPort p f).stamp = s.stamp := by cases p <;> rfl
@[simp] theorem State.modPort_pending (s : State) (p : Port) (f : PortRec → PortRec) : (s.modPort p f).pending = s.pending := by cases p <;> rfl
@[simp] theorem State.modPort_entry (s : State) (p : Port) (f : PortRec → PortRec) (j : EntryIx) : (s.modPort p f).entry j = s.entry j := by cases p <;> rfl
@[simp] theorem State.modPort_node (s : State) (p : Port) (f : PortRec → PortRec) (m : NodeIx) : (s.modPort p f).node m = s.node m := by cases p <;> rfl
@[simp] theorem State.modPort_bound (s : State) (p : Port) (f : PortRec → PortRec) (m : NodeIx) : (s.modPort p f).bound m = s.bound m := by cases p <;> rfl
@[simp] theorem State.modPort_line (s : State) (p : Port) (f : PortRec → PortRec) (k : LineIx) : (s.modPort p f).line k = s.line k := by cases p <;> rfl
@[simp] theorem State.modPort_lineEnabled (s : State) (p : Port) (f : PortRec → PortRec) (k : LineIx) : (s.modPort p f).lineEnabled k = s.lineEnabled k := by cases p <;> rfl
@[simp] theorem State.modPort_ceiling (s : State) (p : Port) (f : PortRec → PortRec) (q : Port) : (s.modPort p f).ceiling q = s.ceiling q := by cases p <;> cases q <;> rfl

/-! ## advance -/

@[simp] theorem State.advance_rstnLow (s : State) (t : Time) : (s.advance t).rstnLow = s.rstnLow := rfl
@[simp] theorem State.advance_table (s : State) (t : Time) : (s.advance t).table = s.table := rfl
@[simp] theorem State.advance_admission (s : State) (t : Time) : (s.advance t).admission = s.admission := rfl
@[simp] theorem State.advance_nodes (s : State) (t : Time) : (s.advance t).nodes = s.nodes := rfl
@[simp] theorem State.advance_lines (s : State) (t : Time) : (s.advance t).lines = s.lines := rfl
@[simp] theorem State.advance_portA (s : State) (t : Time) : (s.advance t).portA = s.portA := rfl
@[simp] theorem State.advance_portB (s : State) (t : Time) : (s.advance t).portB = s.portB := rfl
@[simp] theorem State.advance_params (s : State) (t : Time) : (s.advance t).params = s.params := rfl
@[simp] theorem State.advance_buffer (s : State) (t : Time) : (s.advance t).buffer = s.buffer := rfl
@[simp] theorem State.advance_stamp (s : State) (t : Time) : (s.advance t).stamp = s.stamp := rfl
@[simp] theorem State.advance_pending (s : State) (t : Time) : (s.advance t).pending = s.pending := rfl
@[simp] theorem State.advance_entry (s : State) (t : Time) (j : EntryIx) : (s.advance t).entry j = s.entry j := rfl
@[simp] theorem State.advance_node (s : State) (t : Time) (m : NodeIx) : (s.advance t).node m = s.node m := rfl
@[simp] theorem State.advance_bound (s : State) (t : Time) (m : NodeIx) : (s.advance t).bound m = s.bound m := rfl
@[simp] theorem State.advance_line (s : State) (t : Time) (k : LineIx) : (s.advance t).line k = s.line k := rfl
@[simp] theorem State.advance_port (s : State) (t : Time) (q : Port) : (s.advance t).port q = s.port q := by cases q <;> rfl
@[simp] theorem State.advance_lineEnabled (s : State) (t : Time) (k : LineIx) : (s.advance t).lineEnabled k = s.lineEnabled k := rfl
@[simp] theorem State.advance_ceiling (s : State) (t : Time) (q : Port) : (s.advance t).ceiling q = s.ceiling q := by cases q <;> rfl

/-! ## What an update leaves where it writes -/

@[simp] theorem State.setEntry_entry_same (s : State) (i : EntryIx) (o : Option Entry) : (s.setEntry i o).entry i = o := by
  simp [State.entry, State.setEntry]

theorem State.setEntry_entry_ne (s : State) {i j : EntryIx} (o : Option Entry) (h : i ≠ j) :
    (s.setEntry i o).entry j = s.entry j := by
  simp [State.entry, State.setEntry, Fin.val_ne_of_ne h]

theorem State.setEntry_entry (s : State) (i j : EntryIx) (o : Option Entry) :
    (s.setEntry i o).entry j = if i = j then o else s.entry j := by
  by_cases h : i = j
  · subst h; simp
  · simp [h, State.setEntry_entry_ne s o h]

theorem State.modEntry_entry (s : State) (i j : EntryIx) (f : Entry → Entry) :
    (s.modEntry i f).entry j = if i = j then (s.entry i).map f else s.entry j := by
  simp [State.modEntry, State.setEntry_entry]

@[simp] theorem State.setNode_node_same (s : State) (n : NodeIx) (r : NodeRec) : (s.setNode n r).node n = r := by
  simp [State.node, State.setNode]

theorem State.setNode_node (s : State) (n m : NodeIx) (r : NodeRec) :
    (s.setNode n r).node m = if n = m then r else s.node m := by
  by_cases h : n = m
  · subst h; simp
  · simp [h, State.node, State.setNode, Fin.val_ne_of_ne h]

theorem State.modNode_node (s : State) (n m : NodeIx) (f : NodeRec → NodeRec) :
    (s.modNode n f).node m = if n = m then f (s.node n) else s.node m := by
  simp [State.modNode, State.setNode_node]

theorem State.modBound_node (s : State) (n m : NodeIx) (f : BoundNode → BoundNode) :
    (s.modBound n f).node m = if n = m then { s.node n with bound := (s.bound n).map f } else s.node m := by
  simp [State.modBound, State.modNode_node, State.bound]

theorem State.setNode_bound (s : State) (n m : NodeIx) (r : NodeRec) :
    (s.setNode n r).bound m = if n = m then r.bound else s.bound m := by
  simp only [State.bound, State.setNode_node]; split <;> rfl

theorem State.modNode_bound (s : State) (n m : NodeIx) (f : NodeRec → NodeRec) :
    (s.modNode n f).bound m = if n = m then (f (s.node n)).bound else s.bound m := by
  simp [State.modNode, State.setNode_bound]

theorem State.modBound_bound (s : State) (n m : NodeIx) (f : BoundNode → BoundNode) :
    (s.modBound n f).bound m = if n = m then (s.bound n).map f else s.bound m := by
  simp only [State.bound, State.modBound_node]; split <;> rfl

@[simp] theorem State.modBound_node_params (s : State) (n m : NodeIx) (f : BoundNode → BoundNode) :
    ((s.modBound n f).node m).params = (s.node m).params := by
  rw [State.modBound_node]; split
  · next h => subst h; rfl
  · rfl

@[simp] theorem State.setLine_line_same (s : State) (l : LineIx) (r : LineRec) : (s.setLine l r).line l = r := by
  simp [State.line, State.setLine]

theorem State.setLine_line (s : State) (l k : LineIx) (r : LineRec) :
    (s.setLine l r).line k = if l = k then r else s.line k := by
  by_cases h : l = k
  · subst h; simp
  · simp [h, State.line, State.setLine, Fin.val_ne_of_ne h]

theorem State.modLine_line (s : State) (l k : LineIx) (f : LineRec → LineRec) :
    (s.modLine l f).line k = if l = k then f (s.line l) else s.line k := by
  simp [State.modLine, State.setLine_line]

@[simp] theorem State.setPort_port_same (s : State) (p : Port) (r : PortRec) : (s.setPort p r).port p = r := by
  cases p <;> rfl

theorem State.setPort_port (s : State) (p q : Port) (r : PortRec) :
    (s.setPort p r).port q = if p = q then r else s.port q := by
  cases p <;> cases q <;> rfl

theorem State.modPort_port (s : State) (p q : Port) (f : PortRec → PortRec) :
    (s.modPort p f).port q = if p = q then f (s.port p) else s.port q := by
  simp [State.modPort, State.setPort_port]

@[simp] theorem State.advance_now (s : State) (t : Time) : (s.advance t).now = max s.now t := rfl


/-! ## Fields that no accessor of another field reads -/

@[simp] theorem State.with_admission_entry (s : State) (x : List EntryIx) (j : EntryIx) :
    (({ s with admission := x }) : State).entry j = s.entry j := rfl
@[simp] theorem State.with_admission_node (s : State) (x : List EntryIx) (m : NodeIx) :
    (({ s with admission := x }) : State).node m = s.node m := rfl
@[simp] theorem State.with_admission_bound (s : State) (x : List EntryIx) (m : NodeIx) :
    (({ s with admission := x }) : State).bound m = s.bound m := rfl
@[simp] theorem State.with_admission_line (s : State) (x : List EntryIx) (k : LineIx) :
    (({ s with admission := x }) : State).line k = s.line k := rfl
@[simp] theorem State.with_admission_port (s : State) (x : List EntryIx) (q : Port) :
    (({ s with admission := x }) : State).port q = s.port q := by cases q <;> rfl
@[simp] theorem State.with_admission_lineEnabled (s : State) (x : List EntryIx) (k : LineIx) :
    (({ s with admission := x }) : State).lineEnabled k = s.lineEnabled k := rfl
@[simp] theorem State.with_admission_ceiling (s : State) (x : List EntryIx) (q : Port) :
    (({ s with admission := x }) : State).ceiling q = s.ceiling q := by cases q <;> rfl
@[simp] theorem State.with_stamp_entry (s : State) (x : Nat) (j : EntryIx) :
    (({ s with stamp := x }) : State).entry j = s.entry j := rfl
@[simp] theorem State.with_stamp_node (s : State) (x : Nat) (m : NodeIx) :
    (({ s with stamp := x }) : State).node m = s.node m := rfl
@[simp] theorem State.with_stamp_bound (s : State) (x : Nat) (m : NodeIx) :
    (({ s with stamp := x }) : State).bound m = s.bound m := rfl
@[simp] theorem State.with_stamp_line (s : State) (x : Nat) (k : LineIx) :
    (({ s with stamp := x }) : State).line k = s.line k := rfl
@[simp] theorem State.with_stamp_port (s : State) (x : Nat) (q : Port) :
    (({ s with stamp := x }) : State).port q = s.port q := by cases q <;> rfl
@[simp] theorem State.with_stamp_lineEnabled (s : State) (x : Nat) (k : LineIx) :
    (({ s with stamp := x }) : State).lineEnabled k = s.lineEnabled k := rfl
@[simp] theorem State.with_stamp_ceiling (s : State) (x : Nat) (q : Port) :
    (({ s with stamp := x }) : State).ceiling q = s.ceiling q := by cases q <;> rfl
@[simp] theorem State.with_buffer_entry (s : State) (x : List Host.Cell) (j : EntryIx) :
    (({ s with buffer := x }) : State).entry j = s.entry j := rfl
@[simp] theorem State.with_buffer_node (s : State) (x : List Host.Cell) (m : NodeIx) :
    (({ s with buffer := x }) : State).node m = s.node m := rfl
@[simp] theorem State.with_buffer_bound (s : State) (x : List Host.Cell) (m : NodeIx) :
    (({ s with buffer := x }) : State).bound m = s.bound m := rfl
@[simp] theorem State.with_buffer_line (s : State) (x : List Host.Cell) (k : LineIx) :
    (({ s with buffer := x }) : State).line k = s.line k := rfl
@[simp] theorem State.with_buffer_port (s : State) (x : List Host.Cell) (q : Port) :
    (({ s with buffer := x }) : State).port q = s.port q := by cases q <;> rfl
@[simp] theorem State.with_buffer_lineEnabled (s : State) (x : List Host.Cell) (k : LineIx) :
    (({ s with buffer := x }) : State).lineEnabled k = s.lineEnabled k := rfl
@[simp] theorem State.with_buffer_ceiling (s : State) (x : List Host.Cell) (q : Port) :
    (({ s with buffer := x }) : State).ceiling q = s.ceiling q := by cases q <;> rfl
@[simp] theorem State.with_pending_entry (s : State) (x : List Instr) (j : EntryIx) :
    (({ s with pending := x }) : State).entry j = s.entry j := rfl
@[simp] theorem State.with_pending_node (s : State) (x : List Instr) (m : NodeIx) :
    (({ s with pending := x }) : State).node m = s.node m := rfl
@[simp] theorem State.with_pending_bound (s : State) (x : List Instr) (m : NodeIx) :
    (({ s with pending := x }) : State).bound m = s.bound m := rfl
@[simp] theorem State.with_pending_line (s : State) (x : List Instr) (k : LineIx) :
    (({ s with pending := x }) : State).line k = s.line k := rfl
@[simp] theorem State.with_pending_port (s : State) (x : List Instr) (q : Port) :
    (({ s with pending := x }) : State).port q = s.port q := by cases q <;> rfl
@[simp] theorem State.with_pending_lineEnabled (s : State) (x : List Instr) (k : LineIx) :
    (({ s with pending := x }) : State).lineEnabled k = s.lineEnabled k := rfl
@[simp] theorem State.with_pending_ceiling (s : State) (x : List Instr) (q : Port) :
    (({ s with pending := x }) : State).ceiling q = s.ceiling q := by cases q <;> rfl
@[simp] theorem State.with_now_entry (s : State) (x : Time) (j : EntryIx) :
    (({ s with now := x }) : State).entry j = s.entry j := rfl
@[simp] theorem State.with_now_node (s : State) (x : Time) (m : NodeIx) :
    (({ s with now := x }) : State).node m = s.node m := rfl
@[simp] theorem State.with_now_bound (s : State) (x : Time) (m : NodeIx) :
    (({ s with now := x }) : State).bound m = s.bound m := rfl
@[simp] theorem State.with_now_line (s : State) (x : Time) (k : LineIx) :
    (({ s with now := x }) : State).line k = s.line k := rfl
@[simp] theorem State.with_now_port (s : State) (x : Time) (q : Port) :
    (({ s with now := x }) : State).port q = s.port q := by cases q <;> rfl
@[simp] theorem State.with_now_lineEnabled (s : State) (x : Time) (k : LineIx) :
    (({ s with now := x }) : State).lineEnabled k = s.lineEnabled k := rfl
@[simp] theorem State.with_now_ceiling (s : State) (x : Time) (q : Port) :
    (({ s with now := x }) : State).ceiling q = s.ceiling q := by cases q <;> rfl
@[simp] theorem State.with_rstnLow_entry (s : State) (x : Bool) (j : EntryIx) :
    (({ s with rstnLow := x }) : State).entry j = s.entry j := rfl
@[simp] theorem State.with_rstnLow_node (s : State) (x : Bool) (m : NodeIx) :
    (({ s with rstnLow := x }) : State).node m = s.node m := rfl
@[simp] theorem State.with_rstnLow_bound (s : State) (x : Bool) (m : NodeIx) :
    (({ s with rstnLow := x }) : State).bound m = s.bound m := rfl
@[simp] theorem State.with_rstnLow_line (s : State) (x : Bool) (k : LineIx) :
    (({ s with rstnLow := x }) : State).line k = s.line k := rfl
@[simp] theorem State.with_rstnLow_port (s : State) (x : Bool) (q : Port) :
    (({ s with rstnLow := x }) : State).port q = s.port q := by cases q <;> rfl
@[simp] theorem State.with_rstnLow_lineEnabled (s : State) (x : Bool) (k : LineIx) :
    (({ s with rstnLow := x }) : State).lineEnabled k = s.lineEnabled k := rfl
@[simp] theorem State.with_rstnLow_ceiling (s : State) (x : Bool) (q : Port) :
    (({ s with rstnLow := x }) : State).ceiling q = s.ceiling q := by cases q <;> rfl
@[simp] theorem State.with_lines_entry (s : State) (x : Vector LineRec 4) (j : EntryIx) :
    (({ s with lines := x }) : State).entry j = s.entry j := rfl
@[simp] theorem State.with_lines_node (s : State) (x : Vector LineRec 4) (m : NodeIx) :
    (({ s with lines := x }) : State).node m = s.node m := rfl
@[simp] theorem State.with_lines_bound (s : State) (x : Vector LineRec 4) (m : NodeIx) :
    (({ s with lines := x }) : State).bound m = s.bound m := rfl
@[simp] theorem State.with_lines_port (s : State) (x : Vector LineRec 4) (q : Port) :
    (({ s with lines := x }) : State).port q = s.port q := by cases q <;> rfl
@[simp] theorem State.with_lines_lineEnabled (s : State) (x : Vector LineRec 4) (k : LineIx) :
    (({ s with lines := x }) : State).lineEnabled k = s.lineEnabled k := rfl
@[simp] theorem State.with_lines_ceiling (s : State) (x : Vector LineRec 4) (q : Port) :
    (({ s with lines := x }) : State).ceiling q = s.ceiling q := by cases q <;> rfl

end Sys2Proof.Machine
end

