-- ==== Sys2Proof/Laws/Derived.lean ====
section
/-! SUPPORT. Laws/Derived.lean: the figures and lists that are derived from the table do not change under the updates that leave
the table alone. -/

namespace Sys2Proof.Machine

/-! ## modPort -/

@[simp] theorem State.modPort_used (s : State) (p : Port) (f : PortRec → PortRec) : (s.modPort p f).used = s.used := by cases p <;> rfl
@[simp] theorem State.modPort_occupied (s : State) (p : Port) (f : PortRec → PortRec) : (s.modPort p f).occupied = s.occupied := by cases p <;> rfl
@[simp] theorem State.modPort_freeBlocks (s : State) (p : Port) (f : PortRec → PortRec) : (s.modPort p f).freeBlocks = s.freeBlocks := by cases p <;> rfl
@[simp] theorem State.modPort_committedTotal (s : State) (p : Port) (f : PortRec → PortRec) : (s.modPort p f).committedTotal = s.committedTotal := by cases p <;> rfl
@[simp] theorem State.modPort_firstFree (s : State) (p : Port) (f : PortRec → PortRec) : (s.modPort p f).firstFree = s.firstFree := by cases p <;> rfl
@[simp] theorem State.modPort_holds (s : State) (p : Port) (f : PortRec → PortRec) (i : EntryIx) (g : Entry → Bool) : (s.modPort p f).holds i g = s.holds i g := by cases p <;> rfl
@[simp] theorem State.modPort_entriesWhere (s : State) (p : Port) (f : PortRec → PortRec) (g : Entry → Bool) : (s.modPort p f).entriesWhere g = s.entriesWhere g := by cases p <;> rfl
@[simp] theorem State.modPort_tagged (s : State) (p : Port) (f : PortRec → PortRec) (q : Port) (tag : Tag) : (s.modPort p f).tagged q tag = s.tagged q tag := by cases p <;> rfl
@[simp] theorem State.modPort_occupancy (s : State) (p : Port) (f : PortRec → PortRec) (q : Port) : (s.modPort p f).occupancy q = s.occupancy q := by cases p <;> rfl
@[simp] theorem State.modPort_liveEntries (s : State) (p : Port) (f : PortRec → PortRec) (m : NodeIx) : (s.modPort p f).liveEntries m = s.liveEntries m := by cases p <;> rfl
@[simp] theorem State.modPort_liveSeqs (s : State) (p : Port) (f : PortRec → PortRec) (m : NodeIx) : (s.modPort p f).liveSeqs m = s.liveSeqs m := by cases p <;> rfl
@[simp] theorem State.modPort_liveAt (s : State) (p : Port) (f : PortRec → PortRec) (m : NodeIx) (seq : Seq) : (s.modPort p f).liveAt m seq = s.liveAt m seq := by cases p <;> rfl
@[simp] theorem State.modPort_issuingAt (s : State) (p : Port) (f : PortRec → PortRec) (m : NodeIx) (seq : Seq) : (s.modPort p f).issuingAt m seq = s.issuingAt m seq := by cases p <;> rfl
@[simp] theorem State.modPort_stampAt (s : State) (p : Port) (f : PortRec → PortRec) (i : EntryIx) : (s.modPort p f).stampAt i = s.stampAt i := by cases p <;> rfl
@[simp] theorem State.modPort_byStamp (s : State) (p : Port) (f : PortRec → PortRec) (is : List EntryIx) : (s.modPort p f).byStamp is = s.byStamp is := by cases p <;> rfl

/-! ## modNode -/

@[simp] theorem State.modNode_used (s : State) (n : NodeIx) (f : NodeRec → NodeRec) : (s.modNode n f).used = s.used := rfl
@[simp] theorem State.modNode_occupied (s : State) (n : NodeIx) (f : NodeRec → NodeRec) : (s.modNode n f).occupied = s.occupied := rfl
@[simp] theorem State.modNode_freeBlocks (s : State) (n : NodeIx) (f : NodeRec → NodeRec) : (s.modNode n f).freeBlocks = s.freeBlocks := rfl
@[simp] theorem State.modNode_committedTotal (s : State) (n : NodeIx) (f : NodeRec → NodeRec) : (s.modNode n f).committedTotal = s.committedTotal := rfl
@[simp] theorem State.modNode_firstFree (s : State) (n : NodeIx) (f : NodeRec → NodeRec) : (s.modNode n f).firstFree = s.firstFree := rfl
@[simp] theorem State.modNode_holds (s : State) (n : NodeIx) (f : NodeRec → NodeRec) (i : EntryIx) (g : Entry → Bool) : (s.modNode n f).holds i g = s.holds i g := rfl
@[simp] theorem State.modNode_entriesWhere (s : State) (n : NodeIx) (f : NodeRec → NodeRec) (g : Entry → Bool) : (s.modNode n f).entriesWhere g = s.entriesWhere g := rfl
@[simp] theorem State.modNode_tagged (s : State) (n : NodeIx) (f : NodeRec → NodeRec) (q : Port) (tag : Tag) : (s.modNode n f).tagged q tag = s.tagged q tag := rfl
@[simp] theorem State.modNode_occupancy (s : State) (n : NodeIx) (f : NodeRec → NodeRec) (q : Port) : (s.modNode n f).occupancy q = s.occupancy q := rfl
@[simp] theorem State.modNode_liveEntries (s : State) (n : NodeIx) (f : NodeRec → NodeRec) (m : NodeIx) : (s.modNode n f).liveEntries m = s.liveEntries m := rfl
@[simp] theorem State.modNode_liveSeqs (s : State) (n : NodeIx) (f : NodeRec → NodeRec) (m : NodeIx) : (s.modNode n f).liveSeqs m = s.liveSeqs m := rfl
@[simp] theorem State.modNode_liveAt (s : State) (n : NodeIx) (f : NodeRec → NodeRec) (m : NodeIx) (seq : Seq) : (s.modNode n f).liveAt m seq = s.liveAt m seq := rfl
@[simp] theorem State.modNode_issuingAt (s : State) (n : NodeIx) (f : NodeRec → NodeRec) (m : NodeIx) (seq : Seq) : (s.modNode n f).issuingAt m seq = s.issuingAt m seq := rfl
@[simp] theorem State.modNode_stampAt (s : State) (n : NodeIx) (f : NodeRec → NodeRec) (i : EntryIx) : (s.modNode n f).stampAt i = s.stampAt i := rfl
@[simp] theorem State.modNode_byStamp (s : State) (n : NodeIx) (f : NodeRec → NodeRec) (is : List EntryIx) : (s.modNode n f).byStamp is = s.byStamp is := rfl

/-! ## modBound -/

@[simp] theorem State.modBound_used (s : State) (n : NodeIx) (f : BoundNode → BoundNode) : (s.modBound n f).used = s.used := rfl
@[simp] theorem State.modBound_occupied (s : State) (n : NodeIx) (f : BoundNode → BoundNode) : (s.modBound n f).occupied = s.occupied := rfl
@[simp] theorem State.modBound_freeBlocks (s : State) (n : NodeIx) (f : BoundNode → BoundNode) : (s.modBound n f).freeBlocks = s.freeBlocks := rfl
@[simp] theorem State.modBound_committedTotal (s : State) (n : NodeIx) (f : BoundNode → BoundNode) : (s.modBound n f).committedTotal = s.committedTotal := rfl
@[simp] theorem State.modBound_firstFree (s : State) (n : NodeIx) (f : BoundNode → BoundNode) : (s.modBound n f).firstFree = s.firstFree := rfl
@[simp] theorem State.modBound_holds (s : State) (n : NodeIx) (f : BoundNode → BoundNode) (i : EntryIx) (g : Entry → Bool) : (s.modBound n f).holds i g = s.holds i g := rfl
@[simp] theorem State.modBound_entriesWhere (s : State) (n : NodeIx) (f : BoundNode → BoundNode) (g : Entry → Bool) : (s.modBound n f).entriesWhere g = s.entriesWhere g := rfl
@[simp] theorem State.modBound_tagged (s : State) (n : NodeIx) (f : BoundNode → BoundNode) (q : Port) (tag : Tag) : (s.modBound n f).tagged q tag = s.tagged q tag := rfl
@[simp] theorem State.modBound_occupancy (s : State) (n : NodeIx) (f : BoundNode → BoundNode) (q : Port) : (s.modBound n f).occupancy q = s.occupancy q := rfl
@[simp] theorem State.modBound_liveEntries (s : State) (n : NodeIx) (f : BoundNode → BoundNode) (m : NodeIx) : (s.modBound n f).liveEntries m = s.liveEntries m := rfl
@[simp] theorem State.modBound_liveSeqs (s : State) (n : NodeIx) (f : BoundNode → BoundNode) (m : NodeIx) : (s.modBound n f).liveSeqs m = s.liveSeqs m := rfl
@[simp] theorem State.modBound_liveAt (s : State) (n : NodeIx) (f : BoundNode → BoundNode) (m : NodeIx) (seq : Seq) : (s.modBound n f).liveAt m seq = s.liveAt m seq := rfl
@[simp] theorem State.modBound_issuingAt (s : State) (n : NodeIx) (f : BoundNode → BoundNode) (m : NodeIx) (seq : Seq) : (s.modBound n f).issuingAt m seq = s.issuingAt m seq := rfl
@[simp] theorem State.modBound_stampAt (s : State) (n : NodeIx) (f : BoundNode → BoundNode) (i : EntryIx) : (s.modBound n f).stampAt i = s.stampAt i := rfl
@[simp] theorem State.modBound_byStamp (s : State) (n : NodeIx) (f : BoundNode → BoundNode) (is : List EntryIx) : (s.modBound n f).byStamp is = s.byStamp is := rfl

/-! ## modLine -/

@[simp] theorem State.modLine_used (s : State) (l : LineIx) (f : LineRec → LineRec) : (s.modLine l f).used = s.used := rfl
@[simp] theorem State.modLine_occupied (s : State) (l : LineIx) (f : LineRec → LineRec) : (s.modLine l f).occupied = s.occupied := rfl
@[simp] theorem State.modLine_freeBlocks (s : State) (l : LineIx) (f : LineRec → LineRec) : (s.modLine l f).freeBlocks = s.freeBlocks := rfl
@[simp] theorem State.modLine_committedTotal (s : State) (l : LineIx) (f : LineRec → LineRec) : (s.modLine l f).committedTotal = s.committedTotal := rfl
@[simp] theorem State.modLine_firstFree (s : State) (l : LineIx) (f : LineRec → LineRec) : (s.modLine l f).firstFree = s.firstFree := rfl
@[simp] theorem State.modLine_holds (s : State) (l : LineIx) (f : LineRec → LineRec) (i : EntryIx) (g : Entry → Bool) : (s.modLine l f).holds i g = s.holds i g := rfl
@[simp] theorem State.modLine_entriesWhere (s : State) (l : LineIx) (f : LineRec → LineRec) (g : Entry → Bool) : (s.modLine l f).entriesWhere g = s.entriesWhere g := rfl
@[simp] theorem State.modLine_tagged (s : State) (l : LineIx) (f : LineRec → LineRec) (q : Port) (tag : Tag) : (s.modLine l f).tagged q tag = s.tagged q tag := rfl
@[simp] theorem State.modLine_occupancy (s : State) (l : LineIx) (f : LineRec → LineRec) (q : Port) : (s.modLine l f).occupancy q = s.occupancy q := rfl
@[simp] theorem State.modLine_liveEntries (s : State) (l : LineIx) (f : LineRec → LineRec) (m : NodeIx) : (s.modLine l f).liveEntries m = s.liveEntries m := rfl
@[simp] theorem State.modLine_liveSeqs (s : State) (l : LineIx) (f : LineRec → LineRec) (m : NodeIx) : (s.modLine l f).liveSeqs m = s.liveSeqs m := rfl
@[simp] theorem State.modLine_liveAt (s : State) (l : LineIx) (f : LineRec → LineRec) (m : NodeIx) (seq : Seq) : (s.modLine l f).liveAt m seq = s.liveAt m seq := rfl
@[simp] theorem State.modLine_issuingAt (s : State) (l : LineIx) (f : LineRec → LineRec) (m : NodeIx) (seq : Seq) : (s.modLine l f).issuingAt m seq = s.issuingAt m seq := rfl
@[simp] theorem State.modLine_stampAt (s : State) (l : LineIx) (f : LineRec → LineRec) (i : EntryIx) : (s.modLine l f).stampAt i = s.stampAt i := rfl
@[simp] theorem State.modLine_byStamp (s : State) (l : LineIx) (f : LineRec → LineRec) (is : List EntryIx) : (s.modLine l f).byStamp is = s.byStamp is := rfl

/-! ## advance -/

@[simp] theorem State.advance_used (s : State) (t : Time) : (s.advance t).used = s.used := rfl
@[simp] theorem State.advance_occupied (s : State) (t : Time) : (s.advance t).occupied = s.occupied := rfl
@[simp] theorem State.advance_freeBlocks (s : State) (t : Time) : (s.advance t).freeBlocks = s.freeBlocks := rfl
@[simp] theorem State.advance_committedTotal (s : State) (t : Time) : (s.advance t).committedTotal = s.committedTotal := rfl
@[simp] theorem State.advance_firstFree (s : State) (t : Time) : (s.advance t).firstFree = s.firstFree := rfl
@[simp] theorem State.advance_holds (s : State) (t : Time) (i : EntryIx) (g : Entry → Bool) : (s.advance t).holds i g = s.holds i g := rfl
@[simp] theorem State.advance_entriesWhere (s : State) (t : Time) (g : Entry → Bool) : (s.advance t).entriesWhere g = s.entriesWhere g := rfl
@[simp] theorem State.advance_tagged (s : State) (t : Time) (q : Port) (tag : Tag) : (s.advance t).tagged q tag = s.tagged q tag := rfl
@[simp] theorem State.advance_occupancy (s : State) (t : Time) (q : Port) : (s.advance t).occupancy q = s.occupancy q := rfl
@[simp] theorem State.advance_liveEntries (s : State) (t : Time) (m : NodeIx) : (s.advance t).liveEntries m = s.liveEntries m := rfl
@[simp] theorem State.advance_liveSeqs (s : State) (t : Time) (m : NodeIx) : (s.advance t).liveSeqs m = s.liveSeqs m := rfl
@[simp] theorem State.advance_liveAt (s : State) (t : Time) (m : NodeIx) (seq : Seq) : (s.advance t).liveAt m seq = s.liveAt m seq := rfl
@[simp] theorem State.advance_issuingAt (s : State) (t : Time) (m : NodeIx) (seq : Seq) : (s.advance t).issuingAt m seq = s.issuingAt m seq := rfl
@[simp] theorem State.advance_stampAt (s : State) (t : Time) (i : EntryIx) : (s.advance t).stampAt i = s.stampAt i := rfl
@[simp] theorem State.advance_byStamp (s : State) (t : Time) (is : List EntryIx) : (s.advance t).byStamp is = s.byStamp is := rfl

/-! ## raiseOn -/

@[simp] theorem raiseOn_used (p : Port) (ev : Event) (s : State) : (raiseOn p ev s).used = s.used := by cases p <;> rfl
@[simp] theorem raiseOn_occupied (p : Port) (ev : Event) (s : State) : (raiseOn p ev s).occupied = s.occupied := by cases p <;> rfl
@[simp] theorem raiseOn_freeBlocks (p : Port) (ev : Event) (s : State) : (raiseOn p ev s).freeBlocks = s.freeBlocks := by cases p <;> rfl
@[simp] theorem raiseOn_committedTotal (p : Port) (ev : Event) (s : State) : (raiseOn p ev s).committedTotal = s.committedTotal := by cases p <;> rfl
@[simp] theorem raiseOn_firstFree (p : Port) (ev : Event) (s : State) : (raiseOn p ev s).firstFree = s.firstFree := by cases p <;> rfl
@[simp] theorem raiseOn_holds (p : Port) (ev : Event) (s : State) (i : EntryIx) (g : Entry → Bool) : (raiseOn p ev s).holds i g = s.holds i g := by cases p <;> rfl
@[simp] theorem raiseOn_entriesWhere (p : Port) (ev : Event) (s : State) (g : Entry → Bool) : (raiseOn p ev s).entriesWhere g = s.entriesWhere g := by cases p <;> rfl
@[simp] theorem raiseOn_tagged (p : Port) (ev : Event) (s : State) (q : Port) (tag : Tag) : (raiseOn p ev s).tagged q tag = s.tagged q tag := by cases p <;> rfl
@[simp] theorem raiseOn_occupancy (p : Port) (ev : Event) (s : State) (q : Port) : (raiseOn p ev s).occupancy q = s.occupancy q := by cases p <;> rfl
@[simp] theorem raiseOn_liveEntries (p : Port) (ev : Event) (s : State) (m : NodeIx) : (raiseOn p ev s).liveEntries m = s.liveEntries m := by cases p <;> rfl
@[simp] theorem raiseOn_liveSeqs (p : Port) (ev : Event) (s : State) (m : NodeIx) : (raiseOn p ev s).liveSeqs m = s.liveSeqs m := by cases p <;> rfl
@[simp] theorem raiseOn_liveAt (p : Port) (ev : Event) (s : State) (m : NodeIx) (seq : Seq) : (raiseOn p ev s).liveAt m seq = s.liveAt m seq := by cases p <;> rfl
@[simp] theorem raiseOn_issuingAt (p : Port) (ev : Event) (s : State) (m : NodeIx) (seq : Seq) : (raiseOn p ev s).issuingAt m seq = s.issuingAt m seq := by cases p <;> rfl
@[simp] theorem raiseOn_stampAt (p : Port) (ev : Event) (s : State) (i : EntryIx) : (raiseOn p ev s).stampAt i = s.stampAt i := by cases p <;> rfl
@[simp] theorem raiseOn_byStamp (p : Port) (ev : Event) (s : State) (is : List EntryIx) : (raiseOn p ev s).byStamp is = s.byStamp is := by cases p <;> rfl

/-! ## raiseBoth -/

@[simp] theorem raiseBoth_used (ev : Event) (s : State) : (raiseBoth ev s).used = s.used := rfl
@[simp] theorem raiseBoth_occupied (ev : Event) (s : State) : (raiseBoth ev s).occupied = s.occupied := rfl
@[simp] theorem raiseBoth_freeBlocks (ev : Event) (s : State) : (raiseBoth ev s).freeBlocks = s.freeBlocks := rfl
@[simp] theorem raiseBoth_committedTotal (ev : Event) (s : State) : (raiseBoth ev s).committedTotal = s.committedTotal := rfl
@[simp] theorem raiseBoth_firstFree (ev : Event) (s : State) : (raiseBoth ev s).firstFree = s.firstFree := rfl
@[simp] theorem raiseBoth_holds (ev : Event) (s : State) (i : EntryIx) (g : Entry → Bool) : (raiseBoth ev s).holds i g = s.holds i g := rfl
@[simp] theorem raiseBoth_entriesWhere (ev : Event) (s : State) (g : Entry → Bool) : (raiseBoth ev s).entriesWhere g = s.entriesWhere g := rfl
@[simp] theorem raiseBoth_tagged (ev : Event) (s : State) (q : Port) (tag : Tag) : (raiseBoth ev s).tagged q tag = s.tagged q tag := rfl
@[simp] theorem raiseBoth_occupancy (ev : Event) (s : State) (q : Port) : (raiseBoth ev s).occupancy q = s.occupancy q := rfl
@[simp] theorem raiseBoth_liveEntries (ev : Event) (s : State) (m : NodeIx) : (raiseBoth ev s).liveEntries m = s.liveEntries m := rfl
@[simp] theorem raiseBoth_liveSeqs (ev : Event) (s : State) (m : NodeIx) : (raiseBoth ev s).liveSeqs m = s.liveSeqs m := rfl
@[simp] theorem raiseBoth_liveAt (ev : Event) (s : State) (m : NodeIx) (seq : Seq) : (raiseBoth ev s).liveAt m seq = s.liveAt m seq := rfl
@[simp] theorem raiseBoth_issuingAt (ev : Event) (s : State) (m : NodeIx) (seq : Seq) : (raiseBoth ev s).issuingAt m seq = s.issuingAt m seq := rfl
@[simp] theorem raiseBoth_stampAt (ev : Event) (s : State) (i : EntryIx) : (raiseBoth ev s).stampAt i = s.stampAt i := rfl
@[simp] theorem raiseBoth_byStamp (ev : Event) (s : State) (is : List EntryIx) : (raiseBoth ev s).byStamp is = s.byStamp is := rfl

/-! ## countAnswered -/

@[simp] theorem countAnswered_used (p : Port) (s : State) : (countAnswered p s).used = s.used := by cases p <;> rfl
@[simp] theorem countAnswered_occupied (p : Port) (s : State) : (countAnswered p s).occupied = s.occupied := by cases p <;> rfl
@[simp] theorem countAnswered_freeBlocks (p : Port) (s : State) : (countAnswered p s).freeBlocks = s.freeBlocks := by cases p <;> rfl
@[simp] theorem countAnswered_committedTotal (p : Port) (s : State) : (countAnswered p s).committedTotal = s.committedTotal := by cases p <;> rfl
@[simp] theorem countAnswered_firstFree (p : Port) (s : State) : (countAnswered p s).firstFree = s.firstFree := by cases p <;> rfl
@[simp] theorem countAnswered_holds (p : Port) (s : State) (i : EntryIx) (g : Entry → Bool) : (countAnswered p s).holds i g = s.holds i g := by cases p <;> rfl
@[simp] theorem countAnswered_entriesWhere (p : Port) (s : State) (g : Entry → Bool) : (countAnswered p s).entriesWhere g = s.entriesWhere g := by cases p <;> rfl
@[simp] theorem countAnswered_tagged (p : Port) (s : State) (q : Port) (tag : Tag) : (countAnswered p s).tagged q tag = s.tagged q tag := by cases p <;> rfl
@[simp] theorem countAnswered_occupancy (p : Port) (s : State) (q : Port) : (countAnswered p s).occupancy q = s.occupancy q := by cases p <;> rfl
@[simp] theorem countAnswered_liveEntries (p : Port) (s : State) (m : NodeIx) : (countAnswered p s).liveEntries m = s.liveEntries m := by cases p <;> rfl
@[simp] theorem countAnswered_liveSeqs (p : Port) (s : State) (m : NodeIx) : (countAnswered p s).liveSeqs m = s.liveSeqs m := by cases p <;> rfl
@[simp] theorem countAnswered_liveAt (p : Port) (s : State) (m : NodeIx) (seq : Seq) : (countAnswered p s).liveAt m seq = s.liveAt m seq := by cases p <;> rfl
@[simp] theorem countAnswered_issuingAt (p : Port) (s : State) (m : NodeIx) (seq : Seq) : (countAnswered p s).issuingAt m seq = s.issuingAt m seq := by cases p <;> rfl
@[simp] theorem countAnswered_stampAt (p : Port) (s : State) (i : EntryIx) : (countAnswered p s).stampAt i = s.stampAt i := by cases p <;> rfl
@[simp] theorem countAnswered_byStamp (p : Port) (s : State) (is : List EntryIx) : (countAnswered p s).byStamp is = s.byStamp is := by cases p <;> rfl

/-! ## framed -/

@[simp] theorem framed_used (p : Port) (flags : Byte) (c : HostCommand) (s : State) : (framed p flags c s).used = s.used := by cases p <;> rfl
@[simp] theorem framed_occupied (p : Port) (flags : Byte) (c : HostCommand) (s : State) : (framed p flags c s).occupied = s.occupied := by cases p <;> rfl
@[simp] theorem framed_freeBlocks (p : Port) (flags : Byte) (c : HostCommand) (s : State) : (framed p flags c s).freeBlocks = s.freeBlocks := by cases p <;> rfl
@[simp] theorem framed_committedTotal (p : Port) (flags : Byte) (c : HostCommand) (s : State) : (framed p flags c s).committedTotal = s.committedTotal := by cases p <;> rfl
@[simp] theorem framed_firstFree (p : Port) (flags : Byte) (c : HostCommand) (s : State) : (framed p flags c s).firstFree = s.firstFree := by cases p <;> rfl
@[simp] theorem framed_holds (p : Port) (flags : Byte) (c : HostCommand) (s : State) (i : EntryIx) (g : Entry → Bool) : (framed p flags c s).holds i g = s.holds i g := by cases p <;> rfl
@[simp] theorem framed_entriesWhere (p : Port) (flags : Byte) (c : HostCommand) (s : State) (g : Entry → Bool) : (framed p flags c s).entriesWhere g = s.entriesWhere g := by cases p <;> rfl
@[simp] theorem framed_tagged (p : Port) (flags : Byte) (c : HostCommand) (s : State) (q : Port) (tag : Tag) : (framed p flags c s).tagged q tag = s.tagged q tag := by cases p <;> rfl
@[simp] theorem framed_occupancy (p : Port) (flags : Byte) (c : HostCommand) (s : State) (q : Port) : (framed p flags c s).occupancy q = s.occupancy q := by cases p <;> rfl
@[simp] theorem framed_liveEntries (p : Port) (flags : Byte) (c : HostCommand) (s : State) (m : NodeIx) : (framed p flags c s).liveEntries m = s.liveEntries m := by cases p <;> rfl
@[simp] theorem framed_liveSeqs (p : Port) (flags : Byte) (c : HostCommand) (s : State) (m : NodeIx) : (framed p flags c s).liveSeqs m = s.liveSeqs m := by cases p <;> rfl
@[simp] theorem framed_liveAt (p : Port) (flags : Byte) (c : HostCommand) (s : State) (m : NodeIx) (seq : Seq) : (framed p flags c s).liveAt m seq = s.liveAt m seq := by cases p <;> rfl
@[simp] theorem framed_issuingAt (p : Port) (flags : Byte) (c : HostCommand) (s : State) (m : NodeIx) (seq : Seq) : (framed p flags c s).issuingAt m seq = s.issuingAt m seq := by cases p <;> rfl
@[simp] theorem framed_stampAt (p : Port) (flags : Byte) (c : HostCommand) (s : State) (i : EntryIx) : (framed p flags c s).stampAt i = s.stampAt i := by cases p <;> rfl
@[simp] theorem framed_byStamp (p : Port) (flags : Byte) (c : HostCommand) (s : State) (is : List EntryIx) : (framed p flags c s).byStamp is = s.byStamp is := by cases p <;> rfl

/-! ## respond -/

@[simp] theorem respond_used (p : Port) (r : Reply) (s : State) : (respond p r s).used = s.used := by cases p <;> rfl
@[simp] theorem respond_occupied (p : Port) (r : Reply) (s : State) : (respond p r s).occupied = s.occupied := by cases p <;> rfl
@[simp] theorem respond_freeBlocks (p : Port) (r : Reply) (s : State) : (respond p r s).freeBlocks = s.freeBlocks := by cases p <;> rfl
@[simp] theorem respond_committedTotal (p : Port) (r : Reply) (s : State) : (respond p r s).committedTotal = s.committedTotal := by cases p <;> rfl
@[simp] theorem respond_firstFree (p : Port) (r : Reply) (s : State) : (respond p r s).firstFree = s.firstFree := by cases p <;> rfl
@[simp] theorem respond_holds (p : Port) (r : Reply) (s : State) (i : EntryIx) (g : Entry → Bool) : (respond p r s).holds i g = s.holds i g := by cases p <;> rfl
@[simp] theorem respond_entriesWhere (p : Port) (r : Reply) (s : State) (g : Entry → Bool) : (respond p r s).entriesWhere g = s.entriesWhere g := by cases p <;> rfl
@[simp] theorem respond_tagged (p : Port) (r : Reply) (s : State) (q : Port) (tag : Tag) : (respond p r s).tagged q tag = s.tagged q tag := by cases p <;> rfl
@[simp] theorem respond_occupancy (p : Port) (r : Reply) (s : State) (q : Port) : (respond p r s).occupancy q = s.occupancy q := by cases p <;> rfl
@[simp] theorem respond_liveEntries (p : Port) (r : Reply) (s : State) (m : NodeIx) : (respond p r s).liveEntries m = s.liveEntries m := by cases p <;> rfl
@[simp] theorem respond_liveSeqs (p : Port) (r : Reply) (s : State) (m : NodeIx) : (respond p r s).liveSeqs m = s.liveSeqs m := by cases p <;> rfl
@[simp] theorem respond_liveAt (p : Port) (r : Reply) (s : State) (m : NodeIx) (seq : Seq) : (respond p r s).liveAt m seq = s.liveAt m seq := by cases p <;> rfl
@[simp] theorem respond_issuingAt (p : Port) (r : Reply) (s : State) (m : NodeIx) (seq : Seq) : (respond p r s).issuingAt m seq = s.issuingAt m seq := by cases p <;> rfl
@[simp] theorem respond_stampAt (p : Port) (r : Reply) (s : State) (i : EntryIx) : (respond p r s).stampAt i = s.stampAt i := by cases p <;> rfl
@[simp] theorem respond_byStamp (p : Port) (r : Reply) (s : State) (is : List EntryIx) : (respond p r s).byStamp is = s.byStamp is := by cases p <;> rfl

/-! ## received -/

@[simp] theorem HostFrame.received_used (f : HostFrame) (s : State) : (f.received s).used = s.used := by simp only [HostFrame.received, countAnswered_used, framed_used, State.advance_used]
@[simp] theorem HostFrame.received_occupied (f : HostFrame) (s : State) : (f.received s).occupied = s.occupied := by simp only [HostFrame.received, countAnswered_occupied, framed_occupied, State.advance_occupied]
@[simp] theorem HostFrame.received_freeBlocks (f : HostFrame) (s : State) : (f.received s).freeBlocks = s.freeBlocks := by simp only [HostFrame.received, countAnswered_freeBlocks, framed_freeBlocks, State.advance_freeBlocks]
@[simp] theorem HostFrame.received_committedTotal (f : HostFrame) (s : State) : (f.received s).committedTotal = s.committedTotal := by simp only [HostFrame.received, countAnswered_committedTotal, framed_committedTotal, State.advance_committedTotal]
@[simp] theorem HostFrame.received_firstFree (f : HostFrame) (s : State) : (f.received s).firstFree = s.firstFree := by simp only [HostFrame.received, countAnswered_firstFree, framed_firstFree, State.advance_firstFree]
@[simp] theorem HostFrame.received_holds (f : HostFrame) (s : State) (i : EntryIx) (g : Entry → Bool) : (f.received s).holds i g = s.holds i g := by simp only [HostFrame.received, countAnswered_holds, framed_holds, State.advance_holds]
@[simp] theorem HostFrame.received_entriesWhere (f : HostFrame) (s : State) (g : Entry → Bool) : (f.received s).entriesWhere g = s.entriesWhere g := by simp only [HostFrame.received, countAnswered_entriesWhere, framed_entriesWhere, State.advance_entriesWhere]
@[simp] theorem HostFrame.received_tagged (f : HostFrame) (s : State) (q : Port) (tag : Tag) : (f.received s).tagged q tag = s.tagged q tag := by simp only [HostFrame.received, countAnswered_tagged, framed_tagged, State.advance_tagged]
@[simp] theorem HostFrame.received_occupancy (f : HostFrame) (s : State) (q : Port) : (f.received s).occupancy q = s.occupancy q := by simp only [HostFrame.received, countAnswered_occupancy, framed_occupancy, State.advance_occupancy]
@[simp] theorem HostFrame.received_liveEntries (f : HostFrame) (s : State) (m : NodeIx) : (f.received s).liveEntries m = s.liveEntries m := by simp only [HostFrame.received, countAnswered_liveEntries, framed_liveEntries, State.advance_liveEntries]
@[simp] theorem HostFrame.received_liveSeqs (f : HostFrame) (s : State) (m : NodeIx) : (f.received s).liveSeqs m = s.liveSeqs m := by simp only [HostFrame.received, countAnswered_liveSeqs, framed_liveSeqs, State.advance_liveSeqs]
@[simp] theorem HostFrame.received_liveAt (f : HostFrame) (s : State) (m : NodeIx) (seq : Seq) : (f.received s).liveAt m seq = s.liveAt m seq := by simp only [HostFrame.received, countAnswered_liveAt, framed_liveAt, State.advance_liveAt]
@[simp] theorem HostFrame.received_issuingAt (f : HostFrame) (s : State) (m : NodeIx) (seq : Seq) : (f.received s).issuingAt m seq = s.issuingAt m seq := by simp only [HostFrame.received, countAnswered_issuingAt, framed_issuingAt, State.advance_issuingAt]
@[simp] theorem HostFrame.received_stampAt (f : HostFrame) (s : State) (i : EntryIx) : (f.received s).stampAt i = s.stampAt i := by simp only [HostFrame.received, countAnswered_stampAt, framed_stampAt, State.advance_stampAt]
@[simp] theorem HostFrame.received_byStamp (f : HostFrame) (s : State) (is : List EntryIx) : (f.received s).byStamp is = s.byStamp is := by simp only [HostFrame.received, countAnswered_byStamp, framed_byStamp, State.advance_byStamp]

end Sys2Proof.Machine
end

