-- ==== Sys2Proof/Laws/Formats.lean ====
section
/-! SUPPORT. Laws/Formats.lean: what the bytes of a status payload say of the sets they encode. -/

namespace Sys2Proof.Machine

/-- The word of a set of seqs has bit n set exactly for its members n (section 11.2). -/
theorem seqWord_bit (set : List Seq) (q : Seq) :
    (BitVec.ofNat 16 (seqWord set)).getLsbD q.val = true ↔ q ∈ set := by
  have sorted : ((allSeqs.filter fun q => set.contains q).map Fin.val).SortedLT := by
    have : (allSeqs.map Fin.val).Pairwise (· < ·) := by decide
    exact List.sortedLT_iff_pairwise.mpr (this.sublist (List.filter_sublist.map _))
  have sum : seqWord set = (((allSeqs.filter fun q => set.contains q).map Fin.val).map fun i => 2 ^ i).sum := by
    simp [seqWord, Function.comp_def]
  simp only [BitVec.getLsbD_ofNat, q.isLt, decide_true, Bool.true_and, ← Nat.mem_bitIndices, sum,
    Nat.bitIndices_sum_map_two_pow sorted]
  simp only [List.mem_map, List.mem_filter, List.mem_finRange, List.contains_eq_mem, decide_eq_true_eq, true_and]
  exact ⟨fun ⟨_, h, e⟩ => Fin.ext e ▸ h, fun h => ⟨q, h, rfl⟩⟩

end Sys2Proof.Machine
end

