-- ==== Sys2Proof/Laws/Frame.lean ====
section
/-! SUPPORT. Laws/Frame.lean: what no operation of the part changes. `kept` is what no operation but the passing of time and
RSTN changes; `fixed` is what every operation leaves alone but those left out for it: SET_PARAM writes a parameter, the grant
of a REQUEST advances the order stamp, and a segment that is taken stores bytes. -/

set_option linter.unusedSimpArgs false
set_option linter.unusedTactic false
set_option linter.unreachableTactic false

namespace Sys2Proof.Machine

/-- The time, the RSTN level and the queue of waiting commands. -/
def State.kept (s : State) : Time × Bool × List Instr := (s.now, s.rstnLow, s.pending)

/-- The global parameters, the order stamp and the bytes of the buffer. -/
def State.fixed (s : State) : GlobalParams × Nat × List Host.Cell := (s.params, s.stamp, s.buffer)

theorem State.kept_eq {s t : State} (h : t.kept = s.kept) :
    t.now = s.now ∧ t.rstnLow = s.rstnLow ∧ t.pending = s.pending := by
  simpa [State.kept] using h

theorem State.fixed_eq {s t : State} (h : t.fixed = s.fixed) :
    t.params = s.params ∧ t.stamp = s.stamp ∧ t.buffer = s.buffer := by
  simpa [State.fixed] using h

/-! ## The named updates -/
@[simp] theorem State.setEntry_kept (s : State) (i : EntryIx) (o : Option Entry) : (s.setEntry i o).kept = s.kept := rfl
@[simp] theorem State.setEntry_fixed (s : State) (i : EntryIx) (o : Option Entry) : (s.setEntry i o).fixed = s.fixed := rfl
@[simp] theorem State.modEntry_kept (s : State) (i : EntryIx) (f : Entry → Entry) : (s.modEntry i f).kept = s.kept := rfl
@[simp] theorem State.modEntry_fixed (s : State) (i : EntryIx) (f : Entry → Entry) : (s.modEntry i f).fixed = s.fixed := rfl
@[simp] theorem State.setNode_kept (s : State) (n : NodeIx) (r : NodeRec) : (s.setNode n r).kept = s.kept := rfl
@[simp] theorem State.setNode_fixed (s : State) (n : NodeIx) (r : NodeRec) : (s.setNode n r).fixed = s.fixed := rfl
@[simp] theorem State.modNode_kept (s : State) (n : NodeIx) (f : NodeRec → NodeRec) : (s.modNode n f).kept = s.kept := rfl
@[simp] theorem State.modNode_fixed (s : State) (n : NodeIx) (f : NodeRec → NodeRec) : (s.modNode n f).fixed = s.fixed := rfl
@[simp] theorem State.modBound_kept (s : State) (n : NodeIx) (f : BoundNode → BoundNode) : (s.modBound n f).kept = s.kept := rfl
@[simp] theorem State.modBound_fixed (s : State) (n : NodeIx) (f : BoundNode → BoundNode) : (s.modBound n f).fixed = s.fixed := rfl
@[simp] theorem State.setLine_kept (s : State) (l : LineIx) (r : LineRec) : (s.setLine l r).kept = s.kept := rfl
@[simp] theorem State.setLine_fixed (s : State) (l : LineIx) (r : LineRec) : (s.setLine l r).fixed = s.fixed := rfl
@[simp] theorem State.modLine_kept (s : State) (l : LineIx) (f : LineRec → LineRec) : (s.modLine l f).kept = s.kept := rfl
@[simp] theorem State.modLine_fixed (s : State) (l : LineIx) (f : LineRec → LineRec) : (s.modLine l f).fixed = s.fixed := rfl
@[simp] theorem State.setPort_kept (s : State) (p : Port) (r : PortRec) : (s.setPort p r).kept = s.kept := by cases p <;> rfl
@[simp] theorem State.setPort_fixed (s : State) (p : Port) (r : PortRec) : (s.setPort p r).fixed = s.fixed := by cases p <;> rfl
@[simp] theorem State.modPort_kept (s : State) (p : Port) (f : PortRec → PortRec) : (s.modPort p f).kept = s.kept := by cases p <;> rfl
@[simp] theorem State.modPort_fixed (s : State) (p : Port) (f : PortRec → PortRec) : (s.modPort p f).fixed = s.fixed := by cases p <;> rfl
@[simp] theorem State.with_admission_kept (s : State) (x : List EntryIx) : ({ s with admission := x } : State).kept = s.kept := rfl
@[simp] theorem State.with_stamp_kept (s : State) (x : Nat) : ({ s with stamp := x } : State).kept = s.kept := rfl
@[simp] theorem State.with_buffer_kept (s : State) (x : List Host.Cell) : ({ s with buffer := x } : State).kept = s.kept := rfl
@[simp] theorem State.with_params_kept (s : State) (x : GlobalParams) : ({ s with params := x } : State).kept = s.kept := rfl
@[simp] theorem State.with_lines_kept (s : State) (x : Vector LineRec 4) : ({ s with lines := x } : State).kept = s.kept := rfl
@[simp] theorem State.with_admission_fixed (s : State) (x : List EntryIx) : ({ s with admission := x } : State).fixed = s.fixed := rfl
@[simp] theorem State.with_lines_fixed (s : State) (x : Vector LineRec 4) : ({ s with lines := x } : State).fixed = s.fixed := rfl

/-! ## raiseOn -/

@[simp] theorem raiseOn_kept (p : Port) (ev : Event) (s : State) : (raiseOn p ev s).kept = s.kept := by
  simp only [raiseOn, State.modPort_kept]
@[simp] theorem raiseOn_fixed (p : Port) (ev : Event) (s : State) : (raiseOn p ev s).fixed = s.fixed := by
  simp only [raiseOn, State.modPort_fixed]

/-! ## raiseBoth -/

@[simp] theorem raiseBoth_kept (ev : Event) (s : State) : (raiseBoth ev s).kept = s.kept := by
  simp only [raiseBoth, raiseOn_kept]
@[simp] theorem raiseBoth_fixed (ev : Event) (s : State) : (raiseBoth ev s).fixed = s.fixed := by
  simp only [raiseBoth, raiseOn_fixed]

/-! ## modIssueQueue -/

@[simp] theorem State.modIssueQueue_kept (s : State) (n : NodeIx) (f : List EntryIx → List EntryIx) : (s.modIssueQueue n f).kept = s.kept := by
  simp only [State.modIssueQueue, State.modBound_kept]
@[simp] theorem State.modIssueQueue_fixed (s : State) (n : NodeIx) (f : List EntryIx → List EntryIx) : (s.modIssueQueue n f).fixed = s.fixed := by
  simp only [State.modIssueQueue, State.modBound_fixed]

/-! ## leaveQueue -/

@[simp] theorem leaveQueue_kept (i : EntryIx) (e : Entry) (s : State) : (leaveQueue i e s).kept = s.kept := by
  unfold leaveQueue
  try dsimp only
  repeat' split
  all_goals first | rfl | simp only [State.modPort_kept, State.modIssueQueue_kept, State.with_admission_kept]
@[simp] theorem leaveQueue_fixed (i : EntryIx) (e : Entry) (s : State) : (leaveQueue i e s).fixed = s.fixed := by
  unfold leaveQueue
  try dsimp only
  repeat' split
  all_goals first | rfl | simp only [State.modPort_fixed, State.modIssueQueue_fixed, State.with_admission_fixed]

/-! ## queueFirst -/

@[simp] theorem queueFirst_kept (n : NodeIx) (is : List EntryIx) (s : State) : (queueFirst n is s).kept = s.kept := by
  simp only [queueFirst, State.modIssueQueue_kept]
@[simp] theorem queueFirst_fixed (n : NodeIx) (is : List EntryIx) (s : State) : (queueFirst n is s).fixed = s.fixed := by
  simp only [queueFirst, State.modIssueQueue_fixed]

/-! ## queueLast -/

@[simp] theorem queueLast_kept (n : NodeIx) (i : EntryIx) (s : State) : (queueLast n i s).kept = s.kept := by
  simp only [queueLast, State.modIssueQueue_kept]
@[simp] theorem queueLast_fixed (n : NodeIx) (i : EntryIx) (s : State) : (queueLast n i s).fixed = s.fixed := by
  simp only [queueLast, State.modIssueQueue_fixed]

/-! ## clearTimeouts -/

@[simp] theorem clearTimeouts_kept (n : NodeIx) (s : State) : (clearTimeouts n s).kept = s.kept := by
  simp only [clearTimeouts, State.modBound_kept]
@[simp] theorem clearTimeouts_fixed (n : NodeIx) (s : State) : (clearTimeouts n s).fixed = s.fixed := by
  simp only [clearTimeouts, State.modBound_fixed]

/-! ## finish -/

@[simp] theorem finish_kept (status : Status) (i : EntryIx) (s : State) : (finish status i s).kept = s.kept := by
  unfold finish
  try dsimp only
  repeat' split
  all_goals first | rfl | simp only [State.setEntry_kept, State.modPort_kept, leaveQueue_kept, clearTimeouts_kept]
@[simp] theorem finish_fixed (status : Status) (i : EntryIx) (s : State) : (finish status i s).fixed = s.fixed := by
  unfold finish
  try dsimp only
  repeat' split
  all_goals first | rfl | simp only [State.setEntry_fixed, State.modPort_fixed, leaveQueue_fixed, clearTimeouts_fixed]

/-! ## finishAll -/

@[simp] theorem finishAll_kept (status : Status) (is : List EntryIx) (s : State) : (finishAll status is s).kept = s.kept := by
  induction is generalizing s with
  | nil => rfl
  | cons i rest ih => exact (ih (finish status i s)).trans (finish_kept ..)
@[simp] theorem finishAll_fixed (status : Status) (is : List EntryIx) (s : State) : (finishAll status is s).fixed = s.fixed := by
  induction is generalizing s with
  | nil => rfl
  | cons i rest ih => exact (ih (finish status i s)).trans (finish_fixed ..)

/-! ## returnToReady -/

@[simp] theorem returnToReady_kept (charged : Bool) (n : NodeIx) (is : List EntryIx) (s : State) : (returnToReady charged n is s).kept = s.kept := by
  have fold : ∀ (is : List EntryIx) (s : State),
      (is.foldl (fun s i => s.modEntry i (Entry.returned charged)) s).kept = s.kept := by
    intro is
    induction is with
    | nil => intro s; rfl
    | cons i rest ih => intro s; exact (ih _).trans (State.modEntry_kept ..)
  simp only [returnToReady, queueFirst_kept, fold]
@[simp] theorem returnToReady_fixed (charged : Bool) (n : NodeIx) (is : List EntryIx) (s : State) : (returnToReady charged n is s).fixed = s.fixed := by
  have fold : ∀ (is : List EntryIx) (s : State),
      (is.foldl (fun s i => s.modEntry i (Entry.returned charged)) s).fixed = s.fixed := by
    intro is
    induction is with
    | nil => intro s; rfl
    | cons i rest ih => intro s; exact (ih _).trans (State.modEntry_fixed ..)
  simp only [returnToReady, queueFirst_fixed, fold]

/-! ## freeEntry -/

@[simp] theorem freeEntry_kept (i : EntryIx) (s : State) : (freeEntry i s).kept = s.kept := by
  unfold freeEntry
  try dsimp only
  repeat' split
  all_goals first | rfl | simp only [State.setEntry_kept, leaveQueue_kept]
@[simp] theorem freeEntry_fixed (i : EntryIx) (s : State) : (freeEntry i s).fixed = s.fixed := by
  unfold freeEntry
  try dsimp only
  repeat' split
  all_goals first | rfl | simp only [State.setEntry_fixed, leaveQueue_fixed]

/-! ## abandonSeq -/

@[simp] theorem abandonSeq_kept (n : NodeIx) (seq : Seq) (s : State) : (abandonSeq n seq s).kept = s.kept := by
  simp only [abandonSeq, State.modBound_kept]
@[simp] theorem abandonSeq_fixed (n : NodeIx) (seq : Seq) (s : State) : (abandonSeq n seq s).fixed = s.fixed := by
  simp only [abandonSeq, State.modBound_fixed]

/-! ## abandonLive -/

@[simp] theorem abandonLive_kept (e : Entry) (s : State) : (abandonLive e s).kept = s.kept := by
  unfold abandonLive
  try dsimp only
  repeat' split
  all_goals first | rfl | simp only [abandonSeq_kept]
@[simp] theorem abandonLive_fixed (e : Entry) (s : State) : (abandonLive e s).fixed = s.fixed := by
  unfold abandonLive
  try dsimp only
  repeat' split
  all_goals first | rfl | simp only [abandonSeq_fixed]

/-! ## grantHead -/

@[simp] theorem grantHead_kept (i : EntryIx) (e : Entry) (s : State) : (grantHead i e s).kept = s.kept := by
  simp only [grantHead, State.setEntry_kept, queueLast_kept, State.with_admission_kept]
@[simp] theorem grantHead_fixed (i : EntryIx) (e : Entry) (s : State) : (grantHead i e s).fixed = s.fixed := by
  simp only [grantHead, State.setEntry_fixed, queueLast_fixed, State.with_admission_fixed]

/-! ## testHeads -/

@[simp] theorem testHeads_kept (fuel : Nat) (s : State) : (testHeads fuel s).kept = s.kept := by
  induction fuel generalizing s with
  | zero => rfl
  | succ fuel ih =>
    unfold testHeads
    repeat' split
    all_goals first | rfl | simp only [ih, grantHead_kept]
@[simp] theorem testHeads_fixed (fuel : Nat) (s : State) : (testHeads fuel s).fixed = s.fixed := by
  induction fuel generalizing s with
  | zero => rfl
  | succ fuel ih =>
    unfold testHeads
    repeat' split
    all_goals first | rfl | simp only [ih, grantHead_fixed]

/-! ## retest -/

@[simp] theorem retest_kept (before after : State) : (retest before after).kept = after.kept := by
  unfold retest
  split
  · exact testHeads_kept ..
  · rfl
@[simp] theorem retest_fixed (before after : State) : (retest before after).fixed = after.fixed := by
  unfold retest
  split
  · exact testHeads_fixed ..
  · rfl

/-! ## writeEstimate -/

@[simp] theorem writeEstimate_kept (n : NodeIx) (e spread : Nat) (s : State) : (writeEstimate n e spread s).kept = s.kept := by
  unfold writeEstimate
  dsimp only
  split <;> simp only [State.modNode_kept, raiseBoth_kept]
@[simp] theorem writeEstimate_fixed (n : NodeIx) (e spread : Nat) (s : State) : (writeEstimate n e spread s).fixed = s.fixed := by
  unfold writeEstimate
  dsimp only
  split <;> simp only [State.modNode_fixed, raiseBoth_fixed]

/-! ## takeSample -/

@[simp] theorem takeSample_kept (n : NodeIx) (accepted : Time) (s : State) : (takeSample n accepted s).kept = s.kept := by
  unfold takeSample
  try dsimp only
  repeat' split
  all_goals first | rfl | simp only [writeEstimate_kept]
@[simp] theorem takeSample_fixed (n : NodeIx) (accepted : Time) (s : State) : (takeSample n accepted s).fixed = s.fixed := by
  unfold takeSample
  try dsimp only
  repeat' split
  all_goals first | rfl | simp only [writeEstimate_fixed]

/-! ## sampleOf -/

@[simp] theorem sampleOf_kept (e : Entry) (s : State) : (sampleOf e s).kept = s.kept := by
  unfold sampleOf
  try dsimp only
  repeat' split
  all_goals first | rfl | simp only [takeSample_kept]
@[simp] theorem sampleOf_fixed (e : Entry) (s : State) : (sampleOf e s).fixed = s.fixed := by
  unfold sampleOf
  try dsimp only
  repeat' split
  all_goals first | rfl | simp only [takeSample_fixed]

/-! ## restartDeadline -/

@[simp] theorem restartDeadline_kept (i : EntryIx) (s : State) : (restartDeadline i s).kept = s.kept := by
  unfold restartDeadline
  try dsimp only
  repeat' split
  all_goals first | rfl | simp only [State.setEntry_kept]
@[simp] theorem restartDeadline_fixed (i : EntryIx) (s : State) : (restartDeadline i s).fixed = s.fixed := by
  unfold restartDeadline
  try dsimp only
  repeat' split
  all_goals first | rfl | simp only [State.setEntry_fixed]

/-! ## abandonExchanges -/

@[simp] theorem abandonExchanges_kept (f : Exchange → Bool) (s : State) : (abandonExchanges f s).kept = s.kept := rfl
@[simp] theorem abandonExchanges_fixed (f : Exchange → Bool) (s : State) : (abandonExchanges f s).fixed = s.fixed := rfl

/-! ## goOffline -/

@[simp] theorem goOffline_kept (n : NodeIx) (s : State) : (goOffline n s).kept = s.kept := by
  unfold goOffline
  try dsimp only
  repeat' split
  all_goals first | rfl | simp only [State.modBound_kept, raiseBoth_kept, finishAll_kept, abandonExchanges_kept]
@[simp] theorem goOffline_fixed (n : NodeIx) (s : State) : (goOffline n s).fixed = s.fixed := by
  unfold goOffline
  try dsimp only
  repeat' split
  all_goals first | rfl | simp only [State.modBound_fixed, raiseBoth_fixed, finishAll_fixed, abandonExchanges_fixed]

/-! ## countSilence -/

@[simp] theorem countSilence_kept (n : NodeIx) (s : State) : (countSilence n s).kept = s.kept := by
  unfold countSilence
  try dsimp only
  repeat' split
  all_goals first | rfl | simp only [State.modBound_kept, raiseBoth_kept, goOffline_kept]
@[simp] theorem countSilence_fixed (n : NodeIx) (s : State) : (countSilence n s).fixed = s.fixed := by
  unfold countSilence
  try dsimp only
  repeat' split
  all_goals first | rfl | simp only [State.modBound_fixed, raiseBoth_fixed, goOffline_fixed]

/-! ## identify -/

@[simp] theorem identify_kept (n : NodeIx) (cls : Byte) (window : Nat) (s : State) : (identify n cls window s).kept = s.kept := by
  unfold identify
  try dsimp only
  repeat' split
  all_goals first | rfl | simp only [State.modBound_kept, raiseBoth_kept, writeEstimate_kept]
@[simp] theorem identify_fixed (n : NodeIx) (cls : Byte) (window : Nat) (s : State) : (identify n cls window s).fixed = s.fixed := by
  unfold identify
  try dsimp only
  repeat' split
  all_goals first | rfl | simp only [State.modBound_fixed, raiseBoth_fixed, writeEstimate_fixed]

/-! ## startExchange -/

@[simp] theorem startExchange_kept (l : LineIx) (n : NodeIx) (b : BoundNode) (kind : FrameKind) (ack : Option Ack) (frame : List Byte) (s : State) : (startExchange l n b kind ack frame s).kept = s.kept := by
  simp only [startExchange, State.modLine_kept]
@[simp] theorem startExchange_fixed (l : LineIx) (n : NodeIx) (b : BoundNode) (kind : FrameKind) (ack : Option Ack) (frame : List Byte) (s : State) : (startExchange l n b kind ack frame s).fixed = s.fixed := by
  simp only [startExchange, State.modLine_fixed]

/-! ## delaySuspectCheck -/

@[simp] theorem delaySuspectCheck_kept (n : NodeIx) (s : State) : (delaySuspectCheck n s).kept = s.kept := by
  simp only [delaySuspectCheck, State.modBound_kept]
@[simp] theorem delaySuspectCheck_fixed (n : NodeIx) (s : State) : (delaySuspectCheck n s).fixed = s.fixed := by
  simp only [delaySuspectCheck, State.modBound_fixed]

/-! ## grantReset -/

@[simp] theorem grantReset_kept (l : LineIx) (n : NodeIx) (b : BoundNode) (s : State) : (grantReset l n b s).kept = s.kept := by
  simp only [grantReset, State.modBound_kept, startExchange_kept]
@[simp] theorem grantReset_fixed (l : LineIx) (n : NodeIx) (b : BoundNode) (s : State) : (grantReset l n b s).fixed = s.fixed := by
  simp only [grantReset, State.modBound_fixed, startExchange_fixed]

/-! ## grantPoll -/

@[simp] theorem grantPoll_kept (l : LineIx) (n : NodeIx) (b : BoundNode) (s : State) : (grantPoll l n b s).kept = s.kept := by
  simp only [grantPoll, startExchange_kept, delaySuspectCheck_kept]
@[simp] theorem grantPoll_fixed (l : LineIx) (n : NodeIx) (b : BoundNode) (s : State) : (grantPoll l n b s).fixed = s.fixed := by
  simp only [grantPoll, startExchange_fixed, delaySuspectCheck_fixed]

/-! ## grantRequest -/

@[simp] theorem grantRequest_kept (l : LineIx) (n : NodeIx) (b : BoundNode) (s : State) : (grantRequest l n b s).kept = s.kept := by
  unfold grantRequest
  try dsimp only
  repeat' split
  all_goals first | rfl | simp only [State.setEntry_kept, State.modBound_kept, startExchange_kept, State.with_stamp_kept]

/-! ## grantTo -/

@[simp] theorem grantTo_kept (l : LineIx) (n : NodeIx) (b : BoundNode) (s : State) (c : Candidate) : (grantTo l n b s c).kept = s.kept := by
  unfold grantTo
  try dsimp only
  repeat' split
  all_goals first | rfl | simp only [grantReset_kept, grantPoll_kept, grantRequest_kept]

/-! ## arbitrate -/

@[simp] theorem arbitrate_kept (l : LineIx) (s : State) : (arbitrate l s).kept = s.kept := by
  unfold arbitrate
  try dsimp only
  repeat' split
  all_goals first | rfl | simp only [grantTo_kept]

/-! ## countLine -/

@[simp] theorem countLine_kept (l : LineIx) (f : LineCounters → LineCounters) (s : State) : (countLine l f s).kept = s.kept := by
  simp only [countLine, State.modLine_kept]
@[simp] theorem countLine_fixed (l : LineIx) (f : LineCounters → LineCounters) (s : State) : (countLine l f s).fixed = s.fixed := by
  simp only [countLine, State.modLine_fixed]

/-! ## disableNodes -/

@[simp] theorem disableNodes_kept (l : LineIx) (s : State) : (disableNodes l s).kept = s.kept := by
  have fold : ∀ (ds : List DropIx) (s : State), (ds.foldl
      (fun s d =>
        match s.nodeAt l d with
        | some n => goOffline n s
        | none => s) s).kept = s.kept := by
    intro ds
    induction ds with
    | nil => intro s; rfl
    | cons d rest ih => intro s; refine (ih _).trans ?_; dsimp only; split <;> first | rfl | exact goOffline_kept ..
  exact fold allDrops s
@[simp] theorem disableNodes_fixed (l : LineIx) (s : State) : (disableNodes l s).fixed = s.fixed := by
  have fold : ∀ (ds : List DropIx) (s : State), (ds.foldl
      (fun s d =>
        match s.nodeAt l d with
        | some n => goOffline n s
        | none => s) s).fixed = s.fixed := by
    intro ds
    induction ds with
    | nil => intro s; rfl
    | cons d rest ih => intro s; refine (ih _).trans ?_; dsimp only; split <;> first | rfl | exact goOffline_fixed ..
  exact fold allDrops s

/-! ## releaseLine -/

@[simp] theorem releaseLine_kept (l : LineIx) (s : State) : (releaseLine l s).kept = s.kept := by
  unfold releaseLine
  try dsimp only
  repeat' split
  all_goals first | rfl | simp only [State.modLine_kept, disableNodes_kept]
@[simp] theorem releaseLine_fixed (l : LineIx) (s : State) : (releaseLine l s).fixed = s.fixed := by
  unfold releaseLine
  try dsimp only
  repeat' split
  all_goals first | rfl | simp only [State.modLine_fixed, disableNodes_fixed]

/-! ## clearIssuing -/

@[simp] theorem clearIssuing_kept (n : NodeIx) (s : State) : (clearIssuing n s).kept = s.kept := by
  simp only [clearIssuing, State.modBound_kept]
@[simp] theorem clearIssuing_fixed (n : NodeIx) (s : State) : (clearIssuing n s).fixed = s.fixed := by
  simp only [clearIssuing, State.modBound_fixed]

/-! ## requestFailed -/

@[simp] theorem requestFailed_kept (n : NodeIx) (seq : Seq) (s : State) : (requestFailed n seq s).kept = s.kept := by
  unfold requestFailed
  try dsimp only
  repeat' split
  all_goals first | rfl | simp only [finish_kept, returnToReady_kept, abandonSeq_kept, clearIssuing_kept]
@[simp] theorem requestFailed_fixed (n : NodeIx) (seq : Seq) (s : State) : (requestFailed n seq s).fixed = s.fixed := by
  unfold requestFailed
  try dsimp only
  repeat' split
  all_goals first | rfl | simp only [finish_fixed, returnToReady_fixed, abandonSeq_fixed, clearIssuing_fixed]

/-! ## probeFailed -/

@[simp] theorem probeFailed_kept (n : NodeIx) (s : State) : (probeFailed n s).kept = s.kept := by
  simp only [probeFailed, State.modNode_kept]
@[simp] theorem probeFailed_fixed (n : NodeIx) (s : State) : (probeFailed n s).fixed = s.fixed := by
  simp only [probeFailed, State.modNode_fixed]

/-! ## exchangeOutcome -/

@[simp] theorem exchangeOutcome_kept (x : Exchange) (s : State) : (exchangeOutcome x s).kept = s.kept := by
  unfold exchangeOutcome
  try dsimp only
  repeat' split
  all_goals first | rfl | simp only [countSilence_kept, requestFailed_kept, probeFailed_kept]
@[simp] theorem exchangeOutcome_fixed (x : Exchange) (s : State) : (exchangeOutcome x s).fixed = s.fixed := by
  unfold exchangeOutcome
  try dsimp only
  repeat' split
  all_goals first | rfl | simp only [countSilence_fixed, requestFailed_fixed, probeFailed_fixed]

/-! ## exchangeFails -/

@[simp] theorem exchangeFails_kept (l : LineIx) (x : Exchange) (s : State) : (exchangeFails l x s).kept = s.kept := by
  unfold exchangeFails
  try dsimp only
  repeat' split
  all_goals first | rfl | simp only [countLine_kept, releaseLine_kept, exchangeOutcome_kept]
@[simp] theorem exchangeFails_fixed (l : LineIx) (x : Exchange) (s : State) : (exchangeFails l x s).fixed = s.fixed := by
  unfold exchangeFails
  try dsimp only
  repeat' split
  all_goals first | rfl | simp only [countLine_fixed, releaseLine_fixed, exchangeOutcome_fixed]

/-! ## sendAgain -/

@[simp] theorem sendAgain_kept (l : LineIx) (x : Exchange) (s : State) : (sendAgain l x s).kept = s.kept := by
  simp only [sendAgain, State.modLine_kept]
@[simp] theorem sendAgain_fixed (l : LineIx) (x : Exchange) (s : State) : (sendAgain l x s).fixed = s.fixed := by
  simp only [sendAgain, State.modLine_fixed]

/-! ## attemptFails -/

@[simp] theorem attemptFails_kept (f : AttemptFault) (l : LineIx) (x : Exchange) (s : State) : (attemptFails f l x s).kept = s.kept := by
  unfold attemptFails
  try dsimp only
  repeat' split
  all_goals first | rfl | simp only [raiseBoth_kept, countLine_kept, exchangeFails_kept, sendAgain_kept]
@[simp] theorem attemptFails_fixed (f : AttemptFault) (l : LineIx) (x : Exchange) (s : State) : (attemptFails f l x s).fixed = s.fixed := by
  unfold attemptFails
  try dsimp only
  repeat' split
  all_goals first | rfl | simp only [raiseBoth_fixed, countLine_fixed, exchangeFails_fixed, sendAgain_fixed]

/-! ## setPhase -/

@[simp] theorem setPhase_kept (l : LineIx) (phase : AttemptPhase) (s : State) : (setPhase l phase s).kept = s.kept := by
  simp only [setPhase, State.modLine_kept]
@[simp] theorem setPhase_fixed (l : LineIx) (phase : AttemptPhase) (s : State) : (setPhase l phase s).fixed = s.fixed := by
  simp only [setPhase, State.modLine_fixed]

/-! ## openWindow -/

@[simp] theorem openWindow_kept (l : LineIx) (s : State) : (openWindow l s).kept = s.kept := by
  unfold openWindow
  try dsimp only
  repeat' split
  all_goals first | rfl | simp only [setPhase_kept]
@[simp] theorem openWindow_fixed (l : LineIx) (s : State) : (openWindow l s).fixed = s.fixed := by
  unfold openWindow
  try dsimp only
  repeat' split
  all_goals first | rfl | simp only [setPhase_fixed]

/-! ## leaveAck -/

@[simp] theorem leaveAck_kept (n : NodeIx) (ack : Ack) (s : State) : (leaveAck n ack s).kept = s.kept := by
  simp only [leaveAck, State.modBound_kept]
@[simp] theorem leaveAck_fixed (n : NodeIx) (ack : Ack) (s : State) : (leaveAck n ack s).fixed = s.fixed := by
  simp only [leaveAck, State.modBound_fixed]

/-! ## serveNode -/

@[simp] theorem serveNode_kept (x : Exchange) (s : State) : (serveNode x s).kept = s.kept := by
  unfold serveNode
  try dsimp only
  repeat' split
  all_goals first | rfl | simp only [State.modBound_kept, raiseBoth_kept]
@[simp] theorem serveNode_fixed (x : Exchange) (s : State) : (serveNode x s).fixed = s.fixed := by
  unfold serveNode
  try dsimp only
  repeat' split
  all_goals first | rfl | simp only [State.modBound_fixed, raiseBoth_fixed]

/-! ## acceptProbing -/

@[simp] theorem acceptProbing_kept (n : NodeIx) (seq : Seq) (i : EntryIx) (e : Entry) (s : State) : (acceptProbing n seq i e s).kept = s.kept := by
  unfold acceptProbing
  try dsimp only
  repeat' split
  all_goals first | rfl | simp only [finish_kept, returnToReady_kept, abandonSeq_kept]
@[simp] theorem acceptProbing_fixed (n : NodeIx) (seq : Seq) (i : EntryIx) (e : Entry) (s : State) : (acceptProbing n seq i e s).fixed = s.fixed := by
  unfold acceptProbing
  try dsimp only
  repeat' split
  all_goals first | rfl | simp only [finish_fixed, returnToReady_fixed, abandonSeq_fixed]

/-! ## onAccept -/

@[simp] theorem onAccept_kept (n : NodeIx) (seq : Seq) (s : State) : (onAccept n seq s).kept = s.kept := by
  unfold onAccept
  try dsimp only
  repeat' split
  all_goals first | rfl | simp only [State.setEntry_kept, abandonSeq_kept, clearIssuing_kept, acceptProbing_kept]
@[simp] theorem onAccept_fixed (n : NodeIx) (seq : Seq) (s : State) : (onAccept n seq s).fixed = s.fixed := by
  unfold onAccept
  try dsimp only
  repeat' split
  all_goals first | rfl | simp only [State.setEntry_fixed, abandonSeq_fixed, clearIssuing_fixed, acceptProbing_fixed]

/-! ## onRefuse -/

@[simp] theorem onRefuse_kept (n : NodeIx) (seq : Seq) (reason : RefuseReason) (s : State) : (onRefuse n seq reason s).kept = s.kept := by
  unfold onRefuse
  try dsimp only
  repeat' split
  all_goals first | rfl | simp only [State.modBound_kept, finish_kept, returnToReady_kept, clearIssuing_kept]
@[simp] theorem onRefuse_fixed (n : NodeIx) (seq : Seq) (reason : RefuseReason) (s : State) : (onRefuse n seq reason s).fixed = s.fixed := by
  unfold onRefuse
  try dsimp only
  repeat' split
  all_goals first | rfl | simp only [State.modBound_fixed, finish_fixed, returnToReady_fixed, clearIssuing_fixed]

/-! ## holdSegment -/

@[simp] theorem holdSegment_kept (n : NodeIx) (seq : Seq) (i : EntryIx) (e : Entry) (s : State) : (holdSegment n seq i e s).kept = s.kept := by
  simp only [holdSegment, State.modBound_kept, raiseOn_kept, restartDeadline_kept, leaveAck_kept]
@[simp] theorem holdSegment_fixed (n : NodeIx) (seq : Seq) (i : EntryIx) (e : Entry) (s : State) : (holdSegment n seq i e s).fixed = s.fixed := by
  simp only [holdSegment, State.modBound_fixed, raiseOn_fixed, restartDeadline_fixed, leaveAck_fixed]

/-! ## takeSegment -/

@[simp] theorem takeSegment_kept (n : NodeIx) (seq : Seq) (i : EntryIx) (e : Entry) (last : Bool) (data : List Byte) (s : State) : (takeSegment n seq i e last data s).kept = s.kept := by
  unfold takeSegment
  try dsimp only
  repeat' split
  all_goals first | rfl | simp only [State.setEntry_kept, finish_kept, sampleOf_kept, leaveAck_kept, State.with_buffer_kept]

/-! ## dropSegment -/

@[simp] theorem dropSegment_kept (n : NodeIx) (seq : Seq) (i : EntryIx) (e : Entry) (s : State) : (dropSegment n seq i e s).kept = s.kept := by
  simp only [dropSegment, restartDeadline_kept, leaveAck_kept]
@[simp] theorem dropSegment_fixed (n : NodeIx) (seq : Seq) (i : EntryIx) (e : Entry) (s : State) : (dropSegment n seq i e s).fixed = s.fixed := by
  simp only [dropSegment, restartDeadline_fixed, leaveAck_fixed]

/-! ## readSegment -/

@[simp] theorem readSegment_kept (n : NodeIx) (seq : Seq) (i : EntryIx) (e : Entry) (last : Bool) (offset : Nat) (data : List Byte) (s : State) : (readSegment n seq i e last offset data s).kept = s.kept := by
  unfold readSegment
  try dsimp only
  repeat' split
  all_goals first | rfl | simp only [holdSegment_kept, takeSegment_kept, dropSegment_kept]

/-! ## writeSegment -/

@[simp] theorem writeSegment_kept (n : NodeIx) (seq : Seq) (i : EntryIx) (e : Entry) (last : Bool) (data : List Byte) (s : State) : (writeSegment n seq i e last data s).kept = s.kept := by
  unfold writeSegment
  try dsimp only
  repeat' split
  all_goals first | rfl | simp only [State.setEntry_kept, finish_kept, sampleOf_kept, restartDeadline_kept, leaveAck_kept]
@[simp] theorem writeSegment_fixed (n : NodeIx) (seq : Seq) (i : EntryIx) (e : Entry) (last : Bool) (data : List Byte) (s : State) : (writeSegment n seq i e last data s).fixed = s.fixed := by
  unfold writeSegment
  try dsimp only
  repeat' split
  all_goals first | rfl | simp only [State.setEntry_fixed, finish_fixed, sampleOf_fixed, restartDeadline_fixed, leaveAck_fixed]

/-! ## lateAnswer -/

@[simp] theorem lateAnswer_kept (n : NodeIx) (seq : Seq) (s : State) : (lateAnswer n seq s).kept = s.kept := by
  simp only [lateAnswer, State.modNode_kept, raiseBoth_kept]
@[simp] theorem lateAnswer_fixed (n : NodeIx) (seq : Seq) (s : State) : (lateAnswer n seq s).fixed = s.fixed := by
  simp only [lateAnswer, State.modNode_fixed, raiseBoth_fixed]

/-! ## noteUnexpected -/

@[simp] theorem noteUnexpected_kept (n : NodeIx) (s : State) : (noteUnexpected n s).kept = s.kept := by
  simp only [noteUnexpected, State.modNode_kept, raiseBoth_kept]
@[simp] theorem noteUnexpected_fixed (n : NodeIx) (s : State) : (noteUnexpected n s).fixed = s.fixed := by
  simp only [noteUnexpected, State.modNode_fixed, raiseBoth_fixed]

/-! ## unexpectedAnswer -/

@[simp] theorem unexpectedAnswer_kept (n : NodeIx) (seq : Seq) (s : State) : (unexpectedAnswer n seq s).kept = s.kept := by
  simp only [unexpectedAnswer, leaveAck_kept, noteUnexpected_kept]
@[simp] theorem unexpectedAnswer_fixed (n : NodeIx) (seq : Seq) (s : State) : (unexpectedAnswer n seq s).fixed = s.fixed := by
  simp only [unexpectedAnswer, leaveAck_fixed, noteUnexpected_fixed]

/-! ## deadAnswer -/

@[simp] theorem deadAnswer_kept (n : NodeIx) (seq : Seq) (s : State) : (deadAnswer n seq s).kept = s.kept := by
  unfold deadAnswer
  try dsimp only
  repeat' split
  all_goals first | rfl | simp only [lateAnswer_kept, unexpectedAnswer_kept]
@[simp] theorem deadAnswer_fixed (n : NodeIx) (seq : Seq) (s : State) : (deadAnswer n seq s).fixed = s.fixed := by
  unfold deadAnswer
  try dsimp only
  repeat' split
  all_goals first | rfl | simp only [lateAnswer_fixed, unexpectedAnswer_fixed]

/-! ## onSegment -/

@[simp] theorem onSegment_kept (n : NodeIx) (seq : Seq) (last : Bool) (offset : Nat) (data : List Byte) (s : State) : (onSegment n seq last offset data s).kept = s.kept := by
  unfold onSegment
  try dsimp only
  repeat' split
  all_goals first | rfl | simp only [readSegment_kept, writeSegment_kept, deadAnswer_kept]

/-! ## onFault -/

@[simp] theorem onFault_kept (n : NodeIx) (seq : Seq) (code : Byte) (s : State) : (onFault n seq code s).kept = s.kept := by
  unfold onFault
  try dsimp only
  repeat' split
  all_goals first | rfl | simp only [finish_kept, sampleOf_kept, deadAnswer_kept]
@[simp] theorem onFault_fixed (n : NodeIx) (seq : Seq) (code : Byte) (s : State) : (onFault n seq code s).fixed = s.fixed := by
  unfold onFault
  try dsimp only
  repeat' split
  all_goals first | rfl | simp only [finish_fixed, sampleOf_fixed, deadAnswer_fixed]

/-! ## settleLost -/

@[simp] theorem settleLost_kept (n : NodeIx) (listed : List Seq) (s : State) : (settleLost n listed s).kept = s.kept := by
  simp only [settleLost, finishAll_kept, returnToReady_kept]
@[simp] theorem settleLost_fixed (n : NodeIx) (listed : List Seq) (s : State) : (settleLost n listed s).fixed = s.fixed := by
  simp only [settleLost, finishAll_fixed, returnToReady_fixed]

/-! ## onPending -/

@[simp] theorem onPending_kept (n : NodeIx) (listed : List Seq) (s : State) : (onPending n listed s).kept = s.kept := by
  unfold onPending
  try dsimp only
  repeat' split
  all_goals first | rfl | simp only [State.modBound_kept, noteUnexpected_kept, settleLost_kept]
@[simp] theorem onPending_fixed (n : NodeIx) (listed : List Seq) (s : State) : (onPending n listed s).fixed = s.fixed := by
  unfold onPending
  try dsimp only
  repeat' split
  all_goals first | rfl | simp only [State.modBound_fixed, noteUnexpected_fixed, settleLost_fixed]

/-! ## handleAnswer -/

@[simp] theorem handleAnswer_kept (n : NodeIx) (s : State) (g : GoodAnswer) : (handleAnswer n s g).kept = s.kept := by
  unfold handleAnswer
  try dsimp only
  repeat' split
  all_goals first | rfl | simp only [identify_kept, onAccept_kept, onRefuse_kept, onSegment_kept, onFault_kept, onPending_kept]

/-! ## answerValid -/

@[simp] theorem answerValid_kept (l : LineIx) (x : Exchange) (g : GoodAnswer) (s : State) : (answerValid l x g s).kept = s.kept := by
  unfold answerValid
  try dsimp only
  repeat' split
  all_goals first | rfl | simp only [countLine_kept, releaseLine_kept, serveNode_kept, handleAnswer_kept]

/-! ## endAnswer -/

@[simp] theorem endAnswer_kept (l : LineIx) (x : Exchange) (s : State) (v : Verdict) : (endAnswer l x s v).kept = s.kept := by
  unfold endAnswer
  try dsimp only
  repeat' split
  all_goals first | rfl | simp only [attemptFails_kept, answerValid_kept]

/-! ## takeAnswer -/

@[simp] theorem takeAnswer_kept (l : LineIx) (x : Exchange) (answer : List LineByte) (s : State) :
    (takeAnswer l x answer s).kept = s.kept := by
  unfold takeAnswer
  split <;> simp only [retest_kept, setPhase_kept, endAnswer_kept]

/-! ## receiveByte -/

@[simp] theorem receiveByte_kept (l : LineIx) (byte : LineByte) (s : State) : (receiveByte l byte s).kept = s.kept := by
  unfold receiveByte
  repeat' split
  all_goals first | rfl | simp only [takeAnswer_kept]

/-! ## receiveBytes -/

/-- The bytes of a command leave what is kept as the time of the command does. -/
@[simp] theorem receiveBytes_kept (t : Time) (l : LineIx) (bytes : List HeardByte) (s : State) :
    (receiveBytes t l bytes s).kept = (s.advance t).kept := by
  unfold receiveBytes
  induction bytes generalizing s with
  | nil => rfl
  | cons h rest ih =>
    rw [List.foldl_cons, ih]
    have := State.kept_eq (receiveByte_kept l h.byte (s.advance (t - h.ago)))
    simp only [State.kept, State.advance, hearByte] at this ⊢
    simp [this]

/-! ## receiveAnswer -/

@[simp] theorem receiveAnswer_kept (l : LineIx) (drop : Byte) (a : NodeAnswer) (s : State) : (receiveAnswer l drop a s).kept = s.kept := by
  unfold receiveAnswer
  try dsimp only
  repeat' split
  all_goals first | rfl | simp only [takeAnswer_kept]

/-! ## attemptEnds -/

@[simp] theorem attemptEnds_kept (f : AttemptFault) (l : LineIx) (x : Exchange) (s : State) : (attemptEnds f l x s).kept = s.kept := by
  simp only [attemptEnds, retest_kept, attemptFails_kept]
@[simp] theorem attemptEnds_fixed (f : AttemptFault) (l : LineIx) (x : Exchange) (s : State) : (attemptEnds f l x s).fixed = s.fixed := by
  simp only [attemptEnds, retest_fixed, attemptFails_fixed]

/-! ## windowExpires -/

@[simp] theorem windowExpires_kept (l : LineIx) (s : State) : (windowExpires l s).kept = s.kept := by
  unfold windowExpires
  try dsimp only
  repeat' split
  all_goals first | rfl | simp only [attemptEnds_kept]
@[simp] theorem windowExpires_fixed (l : LineIx) (s : State) : (windowExpires l s).fixed = s.fixed := by
  unfold windowExpires
  try dsimp only
  repeat' split
  all_goals first | rfl | simp only [attemptEnds_fixed]

/-! ## answerBreaks -/

@[simp] theorem answerBreaks_kept (l : LineIx) (s : State) : (answerBreaks l s).kept = s.kept := by
  unfold answerBreaks
  try dsimp only
  repeat' split
  all_goals first | rfl | simp only [attemptEnds_kept]
@[simp] theorem answerBreaks_fixed (l : LineIx) (s : State) : (answerBreaks l s).fixed = s.fixed := by
  unfold answerBreaks
  try dsimp only
  repeat' split
  all_goals first | rfl | simp only [attemptEnds_fixed]

/-! ## collectHead -/

@[simp] theorem collectHead_kept (p : Port) (s : State) : ((collectHead p s).1).kept = s.kept := by
  unfold collectHead
  try dsimp only
  repeat' split
  all_goals first | rfl | simp only [State.modPort_kept]
@[simp] theorem collectHead_fixed (p : Port) (s : State) : ((collectHead p s).1).fixed = s.fixed := by
  unfold collectHead
  try dsimp only
  repeat' split
  all_goals first | rfl | simp only [State.modPort_fixed]

/-! ## discard -/

@[simp] theorem discard_kept (p : Port) (i : EntryIx) (s : State) : (discard p i s).kept = s.kept := by
  simp only [discard, State.modPort_kept, raiseOn_kept, freeEntry_kept]
@[simp] theorem discard_fixed (p : Port) (i : EntryIx) (s : State) : (discard p i s).fixed = s.fixed := by
  simp only [discard, State.modPort_fixed, raiseOn_fixed, freeEntry_fixed]

/-! ## settleCollect -/

@[simp] theorem settleCollect_kept (p : Port) (complete : Bool) (s : State) : (settleCollect p complete s).kept = s.kept := by
  unfold settleCollect
  try dsimp only
  repeat' split
  all_goals first | rfl | simp only [State.modEntry_kept, State.modPort_kept, freeEntry_kept, discard_kept]
@[simp] theorem settleCollect_fixed (p : Port) (complete : Bool) (s : State) : (settleCollect p complete s).fixed = s.fixed := by
  unfold settleCollect
  try dsimp only
  repeat' split
  all_goals first | rfl | simp only [State.modEntry_fixed, State.modPort_fixed, freeEntry_fixed, discard_fixed]

/-! ## settleEvents -/

@[simp] theorem settleEvents_kept (p : Port) (complete : Bool) (s : State) : (settleEvents p complete s).kept = s.kept := by
  simp only [settleEvents, State.modPort_kept]
@[simp] theorem settleEvents_fixed (p : Port) (complete : Bool) (s : State) : (settleEvents p complete s).fixed = s.fixed := by
  simp only [settleEvents, State.modPort_fixed]

/-! ## expireHold -/

@[simp] theorem expireHold_kept (p : Port) (i : EntryIx) (s : State) : (expireHold p i s).kept = s.kept := by
  unfold expireHold
  try dsimp only
  repeat' split
  all_goals first | rfl | simp only [State.modPort_kept, discard_kept]
@[simp] theorem expireHold_fixed (p : Port) (i : EntryIx) (s : State) : (expireHold p i s).fixed = s.fixed := by
  unfold expireHold
  try dsimp only
  repeat' split
  all_goals first | rfl | simp only [State.modPort_fixed, discard_fixed]

/-! ## submitReadOp -/

@[simp] theorem submitReadOp_kept (p : Port) (tag node : Byte) (addr len : Word) (s : State) : ((submitReadOp p tag node addr len s).1).kept = s.kept := by
  unfold submitReadOp
  dsimp only
  repeat' split
  all_goals first | rfl | simp only [State.setEntry_kept, raiseOn_kept, queueLast_kept, State.with_admission_kept]
@[simp] theorem submitReadOp_fixed (p : Port) (tag node : Byte) (addr len : Word) (s : State) : ((submitReadOp p tag node addr len s).1).fixed = s.fixed := by
  unfold submitReadOp
  dsimp only
  repeat' split
  all_goals first | rfl | simp only [State.setEntry_fixed, raiseOn_fixed, queueLast_fixed, State.with_admission_fixed]

/-! ## submitWriteOp -/

@[simp] theorem submitWriteOp_kept (p : Port) (tag node : Byte) (addr : Word) (payload : List Byte) (s : State) : ((submitWriteOp p tag node addr payload s).1).kept = s.kept := by
  unfold submitWriteOp
  try dsimp only
  repeat' split
  all_goals first | rfl | simp only [State.setEntry_kept, queueLast_kept]
@[simp] theorem submitWriteOp_fixed (p : Port) (tag node : Byte) (addr : Word) (payload : List Byte) (s : State) : ((submitWriteOp p tag node addr payload s).1).fixed = s.fixed := by
  unfold submitWriteOp
  try dsimp only
  repeat' split
  all_goals first | rfl | simp only [State.setEntry_fixed, queueLast_fixed]

/-! ## cancelEntry -/

@[simp] theorem cancelEntry_kept (i : EntryIx) (e : Entry) (s : State) : (cancelEntry i e s).kept = s.kept := by
  simp only [cancelEntry, finish_kept, abandonLive_kept, retest_kept]
@[simp] theorem cancelEntry_fixed (i : EntryIx) (e : Entry) (s : State) : (cancelEntry i e s).fixed = s.fixed := by
  simp only [cancelEntry, finish_fixed, abandonLive_fixed, retest_fixed]

/-! ## cancelOp -/

@[simp] theorem cancelOp_kept (p : Port) (tag : Byte) (s : State) : ((cancelOp p tag s).1).kept = s.kept := by
  unfold cancelOp
  try dsimp only
  repeat' split
  all_goals first | rfl | simp only [cancelEntry_kept]
@[simp] theorem cancelOp_fixed (p : Port) (tag : Byte) (s : State) : ((cancelOp p tag s).1).fixed = s.fixed := by
  unfold cancelOp
  try dsimp only
  repeat' split
  all_goals first | rfl | simp only [cancelEntry_fixed]

/-! ## queryOp -/

@[simp] theorem queryOp_kept (p : Port) (tag : Byte) (s : State) : ((queryOp p tag s).1).kept = s.kept := by
  unfold queryOp
  try dsimp only
  repeat' split
  all_goals first | rfl | simp only []
@[simp] theorem queryOp_fixed (p : Port) (tag : Byte) (s : State) : ((queryOp p tag s).1).fixed = s.fixed := by
  unfold queryOp
  try dsimp only
  repeat' split
  all_goals first | rfl | simp only []

/-! ## portStatusOp -/

@[simp] theorem portStatusOp_kept (p : Port) (clear : Bool) (s : State) : ((portStatusOp p clear s).1).kept = s.kept := by
  unfold portStatusOp
  try dsimp only
  repeat' split
  all_goals first | rfl | simp only [State.modPort_kept]
@[simp] theorem portStatusOp_fixed (p : Port) (clear : Bool) (s : State) : ((portStatusOp p clear s).1).fixed = s.fixed := by
  unfold portStatusOp
  try dsimp only
  repeat' split
  all_goals first | rfl | simp only [State.modPort_fixed]

/-! ## readEventsOp -/

@[simp] theorem readEventsOp_kept (p : Port) (s : State) : ((readEventsOp p s).1).kept = s.kept := by
  simp only [readEventsOp, State.modPort_kept]
@[simp] theorem readEventsOp_fixed (p : Port) (s : State) : ((readEventsOp p s).1).fixed = s.fixed := by
  simp only [readEventsOp, State.modPort_fixed]

/-! ## nodeStatusOp -/

@[simp] theorem nodeStatusOp_kept (node : Byte) (clear : Bool) (s : State) : ((nodeStatusOp node clear s).1).kept = s.kept := by
  unfold nodeStatusOp
  try dsimp only
  repeat' split
  all_goals first | rfl | simp only [State.modNode_kept]
@[simp] theorem nodeStatusOp_fixed (node : Byte) (clear : Bool) (s : State) : ((nodeStatusOp node clear s).1).fixed = s.fixed := by
  unfold nodeStatusOp
  try dsimp only
  repeat' split
  all_goals first | rfl | simp only [State.modNode_fixed]

/-! ## lineStatusOp -/

@[simp] theorem lineStatusOp_kept (line : Byte) (clear : Bool) (s : State) : ((lineStatusOp line clear s).1).kept = s.kept := by
  unfold lineStatusOp
  try dsimp only
  repeat' split
  all_goals first | rfl | simp only [State.modLine_kept]
@[simp] theorem lineStatusOp_fixed (line : Byte) (clear : Bool) (s : State) : ((lineStatusOp line clear s).1).fixed = s.fixed := by
  unfold lineStatusOp
  try dsimp only
  repeat' split
  all_goals first | rfl | simp only [State.modLine_fixed]

/-! ## attach -/

@[simp] theorem attach_kept (n : NodeIx) (l : LineIx) (d : DropIx) (window : Nat) (mode : Mode) (s : State) : (attach n l d window mode s).kept = s.kept := by
  simp only [attach, State.setNode_kept, raiseBoth_kept, writeEstimate_kept]
@[simp] theorem attach_fixed (n : NodeIx) (l : LineIx) (d : DropIx) (window : Nat) (mode : Mode) (s : State) : (attach n l d window mode s).fixed = s.fixed := by
  simp only [attach, State.setNode_fixed, raiseBoth_fixed, writeEstimate_fixed]

/-! ## nodeAttachOp -/

@[simp] theorem nodeAttachOp_kept (p : Port) (node line drop window mode : Byte) (s : State) : ((nodeAttachOp p node line drop window mode s).1).kept = s.kept := by
  unfold nodeAttachOp
  try dsimp only
  repeat' split
  all_goals first | rfl | simp only [attach_kept]
@[simp] theorem nodeAttachOp_fixed (p : Port) (node line drop window mode : Byte) (s : State) : ((nodeAttachOp p node line drop window mode s).1).fixed = s.fixed := by
  unfold nodeAttachOp
  try dsimp only
  repeat' split
  all_goals first | rfl | simp only [attach_fixed]

/-! ## detach -/

@[simp] theorem detach_kept (n : NodeIx) (b : BoundNode) (s : State) : (detach n b s).kept = s.kept := by
  simp only [detach, State.modNode_kept, raiseBoth_kept, finishAll_kept, retest_kept, abandonExchanges_kept]
@[simp] theorem detach_fixed (n : NodeIx) (b : BoundNode) (s : State) : (detach n b s).fixed = s.fixed := by
  simp only [detach, State.modNode_fixed, raiseBoth_fixed, finishAll_fixed, retest_fixed, abandonExchanges_fixed]

/-! ## nodeDetachOp -/

@[simp] theorem nodeDetachOp_kept (p : Port) (node : Byte) (s : State) : ((nodeDetachOp p node s).1).kept = s.kept := by
  unfold nodeDetachOp
  try dsimp only
  repeat' split
  all_goals first | rfl | simp only [detach_kept]
@[simp] theorem nodeDetachOp_fixed (p : Port) (node : Byte) (s : State) : ((nodeDetachOp p node s).1).fixed = s.fixed := by
  unfold nodeDetachOp
  try dsimp only
  repeat' split
  all_goals first | rfl | simp only [detach_fixed]

/-! ## reprobe -/

@[simp] theorem reprobe_kept (n : NodeIx) (b : BoundNode) (s : State) : (reprobe n b s).kept = s.kept := by
  unfold reprobe
  try dsimp only
  repeat' split
  all_goals first | rfl | simp only [State.modBound_kept, raiseBoth_kept, finishAll_kept, returnToReady_kept, abandonExchanges_kept]
@[simp] theorem reprobe_fixed (n : NodeIx) (b : BoundNode) (s : State) : (reprobe n b s).fixed = s.fixed := by
  unfold reprobe
  try dsimp only
  repeat' split
  all_goals first | rfl | simp only [State.modBound_fixed, raiseBoth_fixed, finishAll_fixed, returnToReady_fixed, abandonExchanges_fixed]

/-! ## nodeReprobeOp -/

@[simp] theorem nodeReprobeOp_kept (p : Port) (node : Byte) (s : State) : ((nodeReprobeOp p node s).1).kept = s.kept := by
  unfold nodeReprobeOp
  try dsimp only
  repeat' split
  all_goals first | rfl | simp only [reprobe_kept]
@[simp] theorem nodeReprobeOp_fixed (p : Port) (node : Byte) (s : State) : ((nodeReprobeOp p node s).1).fixed = s.fixed := by
  unfold nodeReprobeOp
  try dsimp only
  repeat' split
  all_goals first | rfl | simp only [reprobe_fixed]

/-! ## flushEntry -/

@[simp] theorem flushEntry_kept (i : EntryIx) (s : State) : (flushEntry i s).kept = s.kept := by
  unfold flushEntry
  try dsimp only
  repeat' split
  all_goals first | rfl | simp only [freeEntry_kept, abandonLive_kept]
@[simp] theorem flushEntry_fixed (i : EntryIx) (s : State) : (flushEntry i s).fixed = s.fixed := by
  unfold flushEntry
  try dsimp only
  repeat' split
  all_goals first | rfl | simp only [freeEntry_fixed, abandonLive_fixed]

/-! ## portResetOp -/

@[simp] theorem portResetOp_kept (p : Port) (s : State) : ((portResetOp p s).1).kept = s.kept := by
  have fold : ∀ (is : List EntryIx) (s : State), (is.foldl (fun s i => flushEntry i s) s).kept = s.kept := by
    intro is
    induction is with
    | nil => intro s; rfl
    | cons i rest ih => intro s; exact (ih _).trans (flushEntry_kept ..)
  simp only [portResetOp, retest_kept, State.modPort_kept, fold]
@[simp] theorem portResetOp_fixed (p : Port) (s : State) : ((portResetOp p s).1).fixed = s.fixed := by
  have fold : ∀ (is : List EntryIx) (s : State), (is.foldl (fun s i => flushEntry i s) s).fixed = s.fixed := by
    intro is
    induction is with
    | nil => intro s; rfl
    | cons i rest ih => intro s; exact (ih _).trans (flushEntry_fixed ..)
  simp only [portResetOp, retest_fixed, State.modPort_fixed, fold]

/-! ## restartDevice -/

@[simp] theorem restartDevice_kept (s : State) : (restartDevice s).kept = s.kept := rfl
@[simp] theorem restartDevice_fixed (s : State) : (restartDevice s).fixed = s.fixed := rfl

/-! ## deviceResetOp -/

@[simp] theorem deviceResetOp_kept (p : Port) (s : State) : ((deviceResetOp p s).1).kept = s.kept := by
  unfold deviceResetOp
  try dsimp only
  repeat' split
  all_goals first | rfl | simp only [restartDevice_kept]
@[simp] theorem deviceResetOp_fixed (p : Port) (s : State) : ((deviceResetOp p s).1).fixed = s.fixed := by
  unfold deviceResetOp
  try dsimp only
  repeat' split
  all_goals first | rfl | simp only [restartDevice_fixed]

/-! ## disableLine -/

@[simp] theorem disableLine_kept (l : LineIx) (s : State) : (disableLine l s).kept = s.kept := by
  unfold disableLine
  try dsimp only
  repeat' split
  all_goals first | rfl | simp only [State.modLine_kept, disableNodes_kept]

/-! ## enableLine -/

@[simp] theorem enableLine_kept (l : LineIx) (s : State) : (enableLine l s).kept = s.kept := by
  unfold enableLine
  try dsimp only
  repeat' split
  all_goals first | rfl | simp only [State.modLine_kept]

/-! ## writeLineEnable -/

@[simp] theorem writeLineEnable_kept (l : LineIx) (set : Bool) (s : State) : (writeLineEnable l set s).kept = s.kept := by
  unfold writeLineEnable
  try dsimp only
  repeat' split
  all_goals first | rfl | simp only [disableLine_kept, enableLine_kept, State.with_params_kept]

/-! ## writeParam -/

@[simp] theorem writeParam_kept (p : Port) (v : Nat) (s : State) (q : Param) : (writeParam p v s q).kept = s.kept := by
  unfold writeParam
  try dsimp only
  repeat' split
  all_goals first | rfl | simp only [State.modNode_kept, State.modPort_kept, writeLineEnable_kept, State.with_params_kept]

/-! ## setParamOp -/

@[simp] theorem setParamOp_kept (p : Port) (num value : Nat) (s : State) : ((setParamOp p num value s).1).kept = s.kept := by
  unfold setParamOp
  try dsimp only
  repeat' split
  all_goals first | rfl | simp only [retest_kept, writeParam_kept]

/-! ## getParamOp -/

@[simp] theorem getParamOp_kept (p : Port) (num : Nat) (s : State) : ((getParamOp p num s).1).kept = s.kept := by
  unfold getParamOp
  try dsimp only
  repeat' split
  all_goals first | rfl | simp only []
@[simp] theorem getParamOp_fixed (p : Port) (num : Nat) (s : State) : ((getParamOp p num s).1).fixed = s.fixed := by
  unfold getParamOp
  try dsimp only
  repeat' split
  all_goals first | rfl | simp only []

/-! ## respond -/

@[simp] theorem respond_kept (p : Port) (reply : Reply) (s : State) : (respond p reply s).kept = s.kept := by
  simp only [respond, State.modPort_kept]
@[simp] theorem respond_fixed (p : Port) (reply : Reply) (s : State) : (respond p reply s).fixed = s.fixed := by
  simp only [respond, State.modPort_fixed]

/-! ## countAnswered -/

@[simp] theorem countAnswered_kept (p : Port) (s : State) : (countAnswered p s).kept = s.kept := by
  simp only [countAnswered, State.modPort_kept]
@[simp] theorem countAnswered_fixed (p : Port) (s : State) : (countAnswered p s).fixed = s.fixed := by
  simp only [countAnswered, State.modPort_fixed]

/-! ## refuseFrame -/

@[simp] theorem refuseFrame_kept (p : Port) (code : Code) (s : State) : (refuseFrame p code s).kept = s.kept := by
  simp only [refuseFrame, State.modPort_kept, respond_kept]
@[simp] theorem refuseFrame_fixed (p : Port) (code : Code) (s : State) : (refuseFrame p code s).fixed = s.fixed := by
  simp only [refuseFrame, State.modPort_fixed, respond_fixed]

/-! ## framed -/

@[simp] theorem framed_kept (p : Port) (flags : Byte) (c : HostCommand) (s : State) : (framed p flags c s).kept = s.kept := by
  simp only [framed, State.modPort_kept]
@[simp] theorem framed_fixed (p : Port) (flags : Byte) (c : HostCommand) (s : State) : (framed p flags c s).fixed = s.fixed := by
  simp only [framed, State.modPort_fixed]

/-! ## cutFrame -/

@[simp] theorem cutFrame_kept (p : Port) (s : State) : (cutFrame p s).kept = s.kept := by
  simp only [cutFrame, State.modPort_kept, raiseOn_kept]
@[simp] theorem cutFrame_fixed (p : Port) (s : State) : (cutFrame p s).fixed = s.fixed := by
  simp only [cutFrame, State.modPort_fixed, raiseOn_fixed]

/-! ## endWindow -/

@[simp] theorem endWindow_kept (p : Port) (complete : Bool) (s : State) : (endWindow p complete s).kept = s.kept := by
  simp only [endWindow, retest_kept, settleCollect_kept, settleEvents_kept]
@[simp] theorem endWindow_fixed (p : Port) (complete : Bool) (s : State) : (endWindow p complete s).fixed = s.fixed := by
  simp only [endWindow, retest_fixed, settleCollect_fixed, settleEvents_fixed]

/-! ## windowCloses -/

@[simp] theorem windowCloses_kept (p : Port) (s : State) (r : Receiver) : (windowCloses p s r).kept = s.kept := by
  unfold windowCloses
  try dsimp only
  repeat' split
  all_goals first | rfl | simp only [cutFrame_kept, endWindow_kept]
@[simp] theorem windowCloses_fixed (p : Port) (s : State) (r : Receiver) : (windowCloses p s r).fixed = s.fixed := by
  unfold windowCloses
  try dsimp only
  repeat' split
  all_goals first | rfl | simp only [cutFrame_fixed, endWindow_fixed]

/-! ## selectFalls -/

@[simp] theorem selectFalls_kept (p : Port) (s : State) : (selectFalls p s).kept = s.kept := by
  simp only [selectFalls, State.modPort_kept]
@[simp] theorem selectFalls_fixed (p : Port) (s : State) : (selectFalls p s).fixed = s.fixed := by
  simp only [selectFalls, State.modPort_fixed]

/-! ## selectRises -/

@[simp] theorem selectRises_kept (p : Port) (s : State) : (selectRises p s).kept = s.kept := by
  unfold selectRises
  try dsimp only
  repeat' split
  all_goals first | rfl | simp only [State.modPort_kept, windowCloses_kept]
@[simp] theorem selectRises_fixed (p : Port) (s : State) : (selectRises p s).fixed = s.fixed := by
  unfold selectRises
  try dsimp only
  repeat' split
  all_goals first | rfl | simp only [State.modPort_fixed, windowCloses_fixed]

/-! ## runCommand -/

@[simp] theorem runCommand_kept (p : Port) (c : HostCommand) (s : State) : ((runCommand p c s).1).kept = s.kept := by
  cases c <;> simp only [runCommand, collectHead_kept, submitReadOp_kept, submitWriteOp_kept, cancelOp_kept, queryOp_kept, portStatusOp_kept, readEventsOp_kept, nodeStatusOp_kept, lineStatusOp_kept, nodeAttachOp_kept, nodeDetachOp_kept, nodeReprobeOp_kept, portResetOp_kept, deviceResetOp_kept, setParamOp_kept, getParamOp_kept]
  rfl

/-! ## judgeFrame -/

@[simp] theorem judgeFrame_kept (p : Port) (declared : Nat) (bytes : List Byte) (check : Byte) (s : State) : (judgeFrame p declared bytes check s).kept = s.kept := by
  unfold judgeFrame
  dsimp only
  repeat' split
  all_goals simp only [execute, respond_kept, countAnswered_kept, refuseFrame_kept, runCommand_kept]

/-! ## commandByte -/

@[simp] theorem commandByte_kept (p : Port) (soFar : List Byte) (byte : Byte) (s : State) : (commandByte p soFar byte s).kept = s.kept := by
  unfold commandByte
  try dsimp only
  repeat' split
  all_goals first | rfl | simp only [State.modPort_kept, judgeFrame_kept]

/-! ## clockByte -/

@[simp] theorem clockByte_kept (p : Port) (byte : Byte) (s : State) : (clockByte p byte s).kept = s.kept := by
  unfold clockByte
  try dsimp only
  repeat' split
  all_goals first | rfl | simp only [State.modPort_kept, commandByte_kept]

/-! ## countTimeout -/

@[simp] theorem countTimeout_kept (n : NodeIx) (s : State) : (countTimeout n s).kept = s.kept := by
  simp only [countTimeout, State.modNode_kept]
@[simp] theorem countTimeout_fixed (n : NodeIx) (s : State) : (countTimeout n s).fixed = s.fixed := by
  simp only [countTimeout, State.modNode_fixed]

/-! ## expireDeadline -/

@[simp] theorem expireDeadline_kept (i : EntryIx) (e : Entry) (seq : Seq) (s : State) : (expireDeadline i e seq s).kept = s.kept := by
  unfold expireDeadline
  dsimp only
  repeat' split
  all_goals first | rfl | simp only [finish_kept, returnToReady_kept, abandonSeq_kept, retest_kept, goOffline_kept, countTimeout_kept]
@[simp] theorem expireDeadline_fixed (i : EntryIx) (e : Entry) (seq : Seq) (s : State) : (expireDeadline i e seq s).fixed = s.fixed := by
  unfold expireDeadline
  dsimp only
  repeat' split
  all_goals first | rfl | simp only [finish_fixed, returnToReady_fixed, abandonSeq_fixed, retest_fixed, goOffline_fixed, countTimeout_fixed]

/-! ## deadlineReached -/

@[simp] theorem deadlineReached_kept (i : EntryIx) (s : State) : (deadlineReached i s).kept = s.kept := by
  unfold deadlineReached
  try dsimp only
  repeat' split
  all_goals first | rfl | simp only [expireDeadline_kept]
@[simp] theorem deadlineReached_fixed (i : EntryIx) (s : State) : (deadlineReached i s).fixed = s.fixed := by
  unfold deadlineReached
  try dsimp only
  repeat' split
  all_goals first | rfl | simp only [expireDeadline_fixed]

/-! ## holdReached -/

@[simp] theorem holdReached_kept (i : EntryIx) (s : State) : (holdReached i s).kept = s.kept := by
  unfold holdReached
  try dsimp only
  repeat' split
  all_goals first | rfl | simp only [retest_kept, expireHold_kept]
@[simp] theorem holdReached_fixed (i : EntryIx) (s : State) : (holdReached i s).fixed = s.fixed := by
  unfold holdReached
  try dsimp only
  repeat' split
  all_goals first | rfl | simp only [retest_fixed, expireHold_fixed]

/-! ## earliestPollReached -/

@[simp] theorem earliestPollReached_kept (n : NodeIx) (s : State) : (earliestPollReached n s).kept = s.kept := by
  simp only [earliestPollReached, State.modBound_kept]
@[simp] theorem earliestPollReached_fixed (n : NodeIx) (s : State) : (earliestPollReached n s).fixed = s.fixed := by
  simp only [earliestPollReached, State.modBound_fixed]

/-! ## refuseEndReached -/

@[simp] theorem refuseEndReached_kept (n : NodeIx) (s : State) : (refuseEndReached n s).kept = s.kept := by
  simp only [refuseEndReached, State.modBound_kept]
@[simp] theorem refuseEndReached_fixed (n : NodeIx) (s : State) : (refuseEndReached n s).fixed = s.fixed := by
  simp only [refuseEndReached, State.modBound_fixed]

end Sys2Proof.Machine
end

