-- ==== Sys2Proof/Laws/HostPort.lean ====
section
/-! SUPPORT. Laws/HostPort.lean: what a frame that has been received leaves, and what a frame that brings a command does. -/

namespace Sys2Proof.Machine

/-! ## The part with a frame received -/

theorem received_eq (f : HostFrame) (s : State) :
    f.received s = (s.advance f.time).modPort f.port fun r =>
      { r with
        csLow := true
        receiver := .command f.bytes
        counters := { r.counters with answered := bump r.counters.answered } } := by
  unfold HostFrame.received countAnswered framed State.modPort State.setPort
  cases f.port <;> rfl

@[simp] theorem received_now (f : HostFrame) (s : State) : (f.received s).now = max s.now f.time := by simp [received_eq]
@[simp] theorem received_rstnLow (f : HostFrame) (s : State) : (f.received s).rstnLow = s.rstnLow := by simp [received_eq]
@[simp] theorem received_table (f : HostFrame) (s : State) : (f.received s).table = s.table := by simp [received_eq]
@[simp] theorem received_admission (f : HostFrame) (s : State) : (f.received s).admission = s.admission := by
  simp [received_eq]
@[simp] theorem received_nodes (f : HostFrame) (s : State) : (f.received s).nodes = s.nodes := by simp [received_eq]
@[simp] theorem received_lines (f : HostFrame) (s : State) : (f.received s).lines = s.lines := by simp [received_eq]
@[simp] theorem received_params (f : HostFrame) (s : State) : (f.received s).params = s.params := by simp [received_eq]
@[simp] theorem received_buffer (f : HostFrame) (s : State) : (f.received s).buffer = s.buffer := by simp [received_eq]
@[simp] theorem received_stamp (f : HostFrame) (s : State) : (f.received s).stamp = s.stamp := by simp [received_eq]
@[simp] theorem received_pending (f : HostFrame) (s : State) : (f.received s).pending = s.pending := by simp [received_eq]
@[simp] theorem received_entry (f : HostFrame) (s : State) (i : EntryIx) : (f.received s).entry i = s.entry i := by
  simp [received_eq]
@[simp] theorem received_node (f : HostFrame) (s : State) (n : NodeIx) : (f.received s).node n = s.node n := by
  simp [received_eq]
@[simp] theorem received_bound (f : HostFrame) (s : State) (n : NodeIx) : (f.received s).bound n = s.bound n := by
  simp [received_eq]
@[simp] theorem received_line (f : HostFrame) (s : State) (l : LineIx) : (f.received s).line l = s.line l := by
  simp [received_eq]
@[simp] theorem received_lineEnabled (f : HostFrame) (s : State) (l : LineIx) :
    (f.received s).lineEnabled l = s.lineEnabled l := by simp [received_eq]
@[simp] theorem received_ceiling (f : HostFrame) (s : State) (p : Port) : (f.received s).ceiling p = s.ceiling p := by
  simp [received_eq]

/-- The port that has received a frame. -/
theorem received_port_self (f : HostFrame) (s : State) :
    (f.received s).port f.port =
      { s.port f.port with
        csLow := true
        receiver := .command f.bytes
        counters := { (s.port f.port).counters with answered := bump (s.port f.port).counters.answered } } := by
  simp [received_eq, State.modPort_port]

/-- The other port. -/
theorem received_port_other (f : HostFrame) (s : State) {p : Port} (h : p ≠ f.port) : (f.received s).port p = s.port p := by
  simp [received_eq, State.modPort_port, Ne.symm h]

/-- What a frame leaves unchanged in either port. -/
theorem received_port_rest (f : HostFrame) (s : State) (p : Port) :
    ((f.received s).port p).completion = (s.port p).completion ∧ ((f.received s).port p).collect = (s.port p).collect ∧
      ((f.received s).port p).events = (s.port p).events ∧ ((f.received s).port p).readMarker = (s.port p).readMarker ∧
      ((f.received s).port p).discards = (s.port p).discards ∧ ((f.received s).port p).params = (s.port p).params := by
  by_cases h : p = f.port
  · subst h; simp [received_port_self]
  · simp [received_port_other f s h]

@[simp] theorem received_port_completion (f : HostFrame) (s : State) (p : Port) :
    ((f.received s).port p).completion = (s.port p).completion := (received_port_rest f s p).1
@[simp] theorem received_port_collect (f : HostFrame) (s : State) (p : Port) :
    ((f.received s).port p).collect = (s.port p).collect := (received_port_rest f s p).2.1
@[simp] theorem received_port_events (f : HostFrame) (s : State) (p : Port) :
    ((f.received s).port p).events = (s.port p).events := (received_port_rest f s p).2.2.1
@[simp] theorem received_port_params (f : HostFrame) (s : State) (p : Port) :
    ((f.received s).port p).params = (s.port p).params := (received_port_rest f s p).2.2.2.2.2

/-! ## The command of a frame -/

/-- A frame that brings a command executes it: its owner acts on the part with the frame received, and the owner's answer
becomes the response (R159, R162). -/
theorem hostCommand_brings {f : HostFrame} {c : HostCommand} {s : State} (h : f.brings c s)
    (run : State → State × Reply) :
    hostCommand f.port f.flags c f.check run (s.advance f.time) = execute f.port run (f.received s) := by
  obtain ⟨rfl, ⟨hr, hcs⟩, hp, hl, hc⟩ := h
  have hj : judgeCommand f.port f.flags f.command f.check run
      (framed f.port f.flags f.command (s.advance f.time)) = execute f.port run (f.received s) := by
    unfold judgeCommand HostFrame.received
    have h1 : ¬maxDeclared < f.command.payload.length := by omega
    have h2 : ¬f.check ≠ crc8 (f.command.bytes f.flags) := by rw [hc]; simp [HostFrame.bytes]
    have h3 : ¬parseCommand f.command.code f.flags f.command.payload = .badLength := by rw [hp]; simp
    simp only [h1, h2, h3, if_false]
  unfold hostCommand
  simp only [State.advance_rstnLow, hr, State.advance_port, Bool.false_eq_true, if_false]
  rcases hcs with hi | ⟨soFar, hi, hpre⟩
  · rw [hi]; exact hj
  · rw [hi]
    have : soFar.isPrefixOf (f.command.bytes f.flags) = true := by
      rw [List.isPrefixOf_iff_prefix]; exact hpre
    simp only [this, if_true]
    exact hj

/-- An owner that answers `reply` and leaves `u` gives the port the response frame of `reply` over `u`. -/
theorem hostCommand_answers {f : HostFrame} {c : HostCommand} {s u : State} {reply : Reply} (h : f.brings c s)
    {run : State → State × Reply} (hrun : run (f.received s) = (u, reply)) :
    hostCommand f.port f.flags c f.check run (s.advance f.time) = respond f.port reply u := by
  rw [hostCommand_brings h, execute, hrun]

/-! ## The retest of an event that follows a frame -/

/-- The test of admission's head reads of the state before an event only the committed total, the limit and the head, which the
reception of a frame does not change. -/
@[simp] theorem retest_received (f : HostFrame) (s u : State) : retest (f.received s) u = retest s u := by
  unfold retest callsForTest
  simp only [HostFrame.received_committedTotal, received_params, received_admission]

@[simp] theorem retest_advance (s u : State) (t : Time) : retest (s.advance t) u = retest s u := rfl

end Sys2Proof.Machine
end

