-- ==== Sys2Proof/Laws/Reset.lean ====
section
/-! SUPPORT. Laws/Reset.lean: what State.reset holds. -/

namespace Sys2Proof.Machine

/-- The buffer lists nothing at reset, which is its canonical form. -/
theorem reset_bufferWf : bufferWf State.reset.buffer := rfl

@[simp] theorem reset_entry (i : EntryIx) : State.reset.entry i = none := by
  simp [State.entry, State.reset]

@[simp] theorem reset_node (n : NodeIx) : State.reset.node n = .powerOn := by
  simp [State.node, State.reset]

@[simp] theorem reset_bound (n : NodeIx) : State.reset.bound n = none := by
  simp [State.bound, NodeRec.powerOn]

@[simp] theorem reset_line (l : LineIx) : State.reset.line l = .powerOn := by
  simp [State.line, State.reset]

@[simp] theorem reset_port (p : Port) : State.reset.port p = .powerOn := by
  cases p <;> rfl

@[simp] theorem reset_used : State.reset.used = [] := by
  simp [State.used]

end Sys2Proof.Machine
end

