-- ==== Sys2Proof/Laws/Table.lean ====
section
/-! SUPPORT. Laws/Table.lean: what the small shared operations of the part do, each said once: events, sets, counts, the queue
updates, freeing, and the abandoning of exchanges. The moves to DONE and to READY, the test of admission and the entry into
OFFLINE are statements of Certificates/Slice0/Obligations.lean. -/

namespace Sys2Proof.Machine

/-! ## Numbers and sets -/

theorem bump_eq (c : Nat) (h : c ≤ 65535) : bump c = min (c + 1) 65535 := by unfold bump; split <;> omega

theorem bump_le (c : Nat) : bump c ≤ 65535 := by unfold bump; split <;> omega

theorem bumpCount_eq (c : Nat) (h : c ≤ 15) : bumpCount c = min (c + 1) 15 := by unfold bumpCount; split <;> omega

theorem clamp_eq {lo hi v : Nat} (h : lo ≤ hi) : clamp lo hi v = max lo (min hi v) := by
  unfold clamp
  split
  · omega
  · split <;> omega

/-- A back-off is running exactly when its end is present and still ahead (R86). -/
theorem mem_running {now end_ : Time} {field : Option Time} : end_ ∈ running now field ↔ end_ ∈ field ∧ now < end_ := by
  cases field <;> simp [running, Option.filter]
  constructor <;> grind

theorem mem_withSeq {q r : Seq} {set : List Seq} : r ∈ withSeq q set ↔ r = q ∨ r ∈ set := by simp [withSeq]

theorem nodup_withSeq (q : Seq) (set : List Seq) : (withSeq q set).Nodup := (List.nodup_finRange 16).filter _

theorem mem_withoutSeq {q r : Seq} {set : List Seq} : r ∈ withoutSeq q set ↔ r ∈ set ∧ r ≠ q := by simp [withoutSeq]

theorem mem_removed {i j : EntryIx} {queue : List EntryIx} : j ∈ removed i queue ↔ j ∈ queue ∧ j ≠ i := by simp [removed]

theorem mem_allEvents (ev : Event) : ev ∈ allEvents := by cases ev <;> decide

theorem mem_withEvent {ev x : Event} {set : List Event} : x ∈ withEvent ev set ↔ x = ev ∨ x ∈ set := by
  simp [withEvent, mem_allEvents]

theorem nodup_withEvent (ev : Event) (set : List Event) : (withEvent ev set).Nodup :=
  (by decide : allEvents.Nodup).filter _

theorem mem_withoutEvent {ev x : Event} {set : List Event} : x ∈ withoutEvent ev set ↔ x ∈ set ∧ x ≠ ev := by
  simp [withoutEvent]

/-! ## Raising an event (R174, R175) -/

/-- An event raised on a port changes that port only. -/
theorem raiseOn_port (p q : Port) (ev : Event) (s : State) :
    (raiseOn p ev s).port q = if p = q then (s.port q).raise ev else s.port q := by
  cases p <;> cases q <;> rfl

/-- An event raised on both ports. -/
theorem raiseBoth_port (ev : Event) (s : State) (q : Port) : (raiseBoth ev s).port q = (s.port q).raise ev := by
  cases q <;> rfl

@[simp] theorem raiseOn_entry (p : Port) (ev : Event) (s : State) (i : EntryIx) : (raiseOn p ev s).entry i = s.entry i := by
  simp [raiseOn]
@[simp] theorem raiseOn_node (p : Port) (ev : Event) (s : State) (n : NodeIx) : (raiseOn p ev s).node n = s.node n := by
  simp [raiseOn]
@[simp] theorem raiseOn_bound (p : Port) (ev : Event) (s : State) (n : NodeIx) : (raiseOn p ev s).bound n = s.bound n := by
  simp [raiseOn]
@[simp] theorem raiseOn_line (p : Port) (ev : Event) (s : State) (l : LineIx) : (raiseOn p ev s).line l = s.line l := by
  simp [raiseOn]
@[simp] theorem raiseOn_admission (p : Port) (ev : Event) (s : State) : (raiseOn p ev s).admission = s.admission := by
  simp [raiseOn]
@[simp] theorem raiseBoth_entry (ev : Event) (s : State) (i : EntryIx) : (raiseBoth ev s).entry i = s.entry i := by
  simp [raiseBoth]
@[simp] theorem raiseBoth_node (ev : Event) (s : State) (n : NodeIx) : (raiseBoth ev s).node n = s.node n := by
  simp [raiseBoth]
@[simp] theorem raiseBoth_bound (ev : Event) (s : State) (n : NodeIx) : (raiseBoth ev s).bound n = s.bound n := by
  simp [raiseBoth]
@[simp] theorem raiseBoth_line (ev : Event) (s : State) (l : LineIx) : (raiseBoth ev s).line l = s.line l := by
  simp [raiseBoth]
@[simp] theorem raiseBoth_admission (ev : Event) (s : State) : (raiseBoth ev s).admission = s.admission := by
  simp [raiseBoth]

/-! ## Queues and freeing -/

/-- Leaving a queue changes no entry. -/
@[simp] theorem leaveQueue_entry (i j : EntryIx) (e : Entry) (s : State) : (leaveQueue i e s).entry j = s.entry j := by
  unfold leaveQueue
  split <;> simp [State.modIssueQueue]

/-- Leaving a queue changes no line. -/
@[simp] theorem leaveQueue_line (i : EntryIx) (e : Entry) (s : State) (l : LineIx) :
    (leaveQueue i e s).line l = s.line l := by
  unfold leaveQueue
  split <;> simp [State.modIssueQueue]

/-- An entry made FREE leaves every other as it was (R20). -/
theorem freeEntry_entry (i j : EntryIx) (s : State) : (freeEntry i s).entry j = if i = j then none else s.entry j := by
  unfold freeEntry
  split
  · rename_i h
    split
    · rename_i hij; subst hij; exact h
    · rfl
  · simp [State.setEntry_entry]

/-- A READY entry alone leaves the issue queue of its node. -/
theorem leaveQueue_ready {i : EntryIx} {e : Entry} (s : State) (h : e.phase = .ready) :
    leaveQueue i e s = s.modBound e.node fun b => { b with issueQueue := removed i b.issueQueue } := by
  simp [leaveQueue, h, State.modIssueQueue]

/-- A WAITING entry leaves the admission queue. -/
theorem leaveQueue_waiting {i : EntryIx} {e : Entry} (s : State) (h : e.phase = .waiting) :
    leaveQueue i e s = { s with admission := removed i s.admission } := by
  simp [leaveQueue, h]

/-- A DONE entry leaves the completion queue of its port. -/
theorem leaveQueue_done {i : EntryIx} {e : Entry} {status : Status} {expiry : Option Time} (s : State)
    (h : e.phase = .done status expiry) :
    leaveQueue i e s = s.modPort e.port fun r => { r with completion := removed i r.completion } := by
  simp [leaveQueue, h]

/-! ## Abandoning (R62, R79) -/

/-- Exchanges marked abandoned: each line keeps its record but for that mark. -/
theorem abandonExchanges_line (f : Exchange → Bool) (s : State) (l : LineIx) :
    (abandonExchanges f s).line l = { s.line l with state := (s.line l).state.abandonIf f } := by
  simp [abandonExchanges, State.line]

@[simp] theorem abandonExchanges_entry (f : Exchange → Bool) (s : State) (i : EntryIx) :
    (abandonExchanges f s).entry i = s.entry i := rfl
@[simp] theorem abandonExchanges_node (f : Exchange → Bool) (s : State) (n : NodeIx) :
    (abandonExchanges f s).node n = s.node n := rfl
@[simp] theorem abandonExchanges_bound (f : Exchange → Bool) (s : State) (n : NodeIx) :
    (abandonExchanges f s).bound n = s.bound n := rfl
@[simp] theorem abandonExchanges_port (f : Exchange → Bool) (s : State) (p : Port) :
    (abandonExchanges f s).port p = s.port p := by cases p <;> rfl
@[simp] theorem abandonExchanges_admission (f : Exchange → Bool) (s : State) :
    (abandonExchanges f s).admission = s.admission := rfl

/-- The seq of a live entry joins its node's abandoned set. -/
theorem abandonLive_some {e : Entry} {seq : Seq} (s : State) (h : e.phase.liveSeq = some seq) :
    abandonLive e s = s.modBound e.node fun b => { b with abandoned := withSeq seq b.abandoned } := by
  simp [abandonLive, h, abandonSeq]

/-- An entry without a live seq abandons none. -/
theorem abandonLive_none {e : Entry} (s : State) (h : e.phase.liveSeq = none) : abandonLive e s = s := by
  simp [abandonLive, h]

end Sys2Proof.Machine
end

