-- ==== Sys2Proof/Tests/Slice0.lean ====
section
/-! SUPPORT. Tests/Slice0.lean: the model's own tests. First the smoke tests of WellFormed and of the decoder, then small tests
of single steps whose expected values come from the manual (each names its rule, table or sequence), then a witness for the
hypotheses of each statement of Certificates/Slice0/Obligations.lean. -/

set_option Elab.async false

namespace Sys2Proof.Tests
open Sys2Proof.Machine

/-! ## Helpers -/

/-- The state after a command. -/
def after (c : Instr) (s : State) : State :=
  match exec c s with
  | .next t => t
  | .fault _ => s
  | .refused _ => s

/-- A frame of a command as a host sends it at time `t`, flags 00h, with a good check byte. -/
def sent (t : Time) (p : Port) (c : HostCommand) : HostFrame := ⟨t, p, 0, c, crc8 (c.bytes 0)⟩

/-- The response frame that a port holds after a command. -/
def response (p : Port) (s : State) : List Byte :=
  match (s.port p).receiver with
  | .turnaround _ bytes => bytes
  | .idle | .command _ | .response .. | .trailing | .ignoring => []

/-- A frame that brings its command to an IDLE port. -/
theorem sent_brings {f : HostFrame} {s : State} (hr : s.rstnLow = false) (hi : (s.port f.port).receiver = .idle)
    (hp : parseCommand f.command.code f.flags f.command.payload = .command f.command)
    (hl : f.command.payload.length ≤ maxDeclared) (hc : f.check = crc8 f.bytes) : f.brings f.command s :=
  ⟨rfl, ⟨hr, .inl hi⟩, hp, hl, hc⟩

/-- A node after a fresh IDENT: ONLINE with E 100, S 25 and next seq 0, advertised window 8 and class 17h. -/
def online (l : LineIx) (d : DropIx) : BoundNode where
  line := l
  drop := d
  health := .online
  advert := some ⟨8, 0x17⟩
  issueQueue := []
  nextSeq := 0
  issuingSeq := none
  abandoned := []
  pendingAck := none
  e := 100
  s := 25
  silence := 0
  timeouts := 0
  earliestPoll := none
  refuseEnd := none
  lastGood := none

/-- `s` with node `n` bound, its parameters at power-on. -/
def bind (n : NodeIx) (b : BoundNode) (s : State) : State := s.setNode n { NodeRec.powerOn with bound := some b }

/-- A read of port A in a phase, its need committed. -/
def read (tag : Tag) (n : NodeIx) (length stamp : Nat) (phase : Phase) : Entry where
  port := .a
  tag := tag
  node := n
  kind := .read
  addr := 0x0040
  length := length
  payload := []
  committed := blocksFor length
  blocks := []
  received := 0
  retries := 0
  flags := ⟨phase != .ready, false, false⟩
  stamp := stamp
  phase := phase

/-- A write of port A in a phase. -/
def write (tag : Tag) (n : NodeIx) (payload : List Byte) (stamp : Nat) (phase : Phase) : Entry :=
  { read tag n payload.length stamp phase with kind := .write, payload := payload, committed := 0 }

/-- An exchange at attempt 1 whose window of 200 µs opened at `opened`. -/
def exchange (n : NodeIx) (d : DropIx) (kind : FrameKind) (ack : Option Ack) (opened : Time) : Exchange where
  node := n
  drop := d
  kind := kind
  ack := ack
  attempt := 1
  abandoned := false
  uncounted := false
  frame := []
  window := 200
  phase := .awaiting opened

/-- `s` with an exchange running on line `l`. -/
def running (l : LineIx) (x : Exchange) (s : State) : State :=
  s.modLine l fun r => { r with state := .exchanging false x }

/-! ## WellFormed: each check refuses an ill-formed term -/

theorem test_writePayloadFits_refuses :
    wellFormed (.submitWrite 0 .a 0 1 2 3 (List.replicate 65532 0) 0) = false := by decide +kernel

theorem test_echoPayloadFits_refuses : wellFormed (.echo 0 .a 0 (List.replicate 65536 0) 0) = false := by decide +kernel

theorem test_segmentFits_refuses : wellFormed (.segment 0 0 0 0 0 0 (List.replicate 252 0)) = false := by decide +kernel

theorem test_pendingFits_refuses : wellFormed (.pending 0 0 0 (List.replicate 256 0)) = false := by decide +kernel

theorem test_answerBytesFit_refuses :
    wellFormed (.invalidAnswer 0 0 []) = false ∧
      wellFormed (.invalidAnswer 0 0 (List.replicate 41 ⟨⟨0, true⟩, 0⟩)) = false ∧
      wellFormed (.invalidAnswer 0 0 [⟨⟨0, true⟩, 0⟩, ⟨⟨0, true⟩, 40⟩]) = false := by
  decide +kernel

/-- The longest of each form is well-formed. -/
theorem test_wellFormed_admits :
    wellFormed (.segment 0 0 0 0 0 0 (List.replicate 251 0)) ∧ wellFormed (.pending 0 0 0 (List.replicate 255 0)) ∧
      wellFormed (.invalidAnswer 0 0 (List.replicate 40 ⟨⟨0, true⟩, 0⟩)) := by decide +kernel

/-! ## Decode -/

/-- The table gives bits to no row, so no word spells a command and `withFetchWord` queues none. -/
theorem test_decode_none (nbits w : Nat) (s : State) : decodeTableWord nbits w = none ∧ s.withFetchWord nbits w = s :=
  ⟨rfl, rfl⟩

/-! ## Frames (R187, section 11.2, section 11.4) -/

/-- The CRC-8 of R187, worked by hand: over the one byte FFh the register is 00h after the XOR and stays 00h; over 00h the
register FFh is stepped eight times, FF E3 DB AB 4B 96 31 62 C4. Over the ASCII digits 1 to 9 it is B4h, the published check
value of the CRC-8 with these parameters (polynomial 1Dh, register FFh, neither reflected nor XORed). -/
theorem test_crc8 : crc8 [0xFF] = 0x00 ∧ crc8 [0x00] = 0xC4 ∧
    crc8 [0x31, 0x32, 0x33, 0x34, 0x35, 0x36, 0x37, 0x38, 0x39] = 0xB4 := by decide +kernel

/-- A two-byte field goes most significant byte first: address 0040h and length 40 of a SUBMIT_READ (section 11.2). -/
theorem test_submit_bytes :
    (HostCommand.submitRead 3 5 0x0040 40).bytes 0 = [0x10, 0x00, 0x00, 0x06, 0x03, 0x05, 0x00, 0x40, 0x00, 0x28] := by
  decide +kernel

/-- The drop frames of section 11.4: a RESET, a POLL with an ack part, a REQUEST for a READ. -/
theorem test_drop_frames :
    (resetFrame 2).dropLast = [0x01, 0x02, 0x00] ∧
      (pollFrame 2 (some ⟨6, 0x0120, .hold⟩)).dropLast = [0x03, 0x02, 0x04, 0x06, 0x02, 0x01, 0x20] ∧
        (requestFrame 2 (read 3 5 40 0 .ready) 7 none).dropLast = [0x02, 0x02, 0x06, 0x00, 0x07, 0x00, 0x40, 0x00, 0x28] := by
  decide +kernel

/-! ## Section 12.1: a three-segment read (times in µs, ten to a tick, the sequence's origin at 0) -/

/-- Node 5 on DL1 at drop 2, as the sequence starts. -/
def start121 : State := bind 5 (online 1 2) State.reset

/-- Tag 3 of the sequence as entry 0, with `k` blocks held. -/
def tag3 (phase : Phase) (received : Nat) (blocks : List BlockIx) : Entry :=
  { read 3 5 40 0 phase with received := received, blocks := blocks }

/-- The sequence with tag 3 out at node 5 under seq 0. -/
def out121 (e : Entry) (b : BoundNode) : State := (bind 5 { b with nextSeq := 1 } State.reset).setEntry 0 (some e)

theorem test_submitRead_granted_at_once :
    let t := after (.submitRead 0 .a 0 3 5 0x0040 40 (sent 0 .a (.submitRead 3 5 0x0040 40)).check) start121
    t.entry 0 = some { tag3 .ready 0 [] with flags := ⟨false, false, false⟩ } ∧ t.committedTotal = 3 ∧
      t.issueQueue 5 = [0] ∧ response .a t = (Reply.bare .ok).frame := by decide +kernel

/-- A read that does not fit waits; the answer is QUEUED and DELAYED is raised (R28, R165). -/
theorem test_submitRead_queued :
    let s := { start121 with params := { GlobalParams.powerOn with limit := 3 } }.setEntry 0 (some (tag3 (.issuing 0) 0 []))
    let t := after (.submitRead 0 .a 0 4 5 0 1 (sent 0 .a (.submitRead 4 5 0 1)).check) s
    (t.entry 1).map Entry.phase = some .waiting ∧ t.admission = [1] ∧ t.portA.events = [.delayed] ∧
      response .a t = (Reply.bare .queued).frame := by decide +kernel

theorem test_lineGrant_request :
    let t := after (.lineGrant 0 1)
      ((bind 5 { online 1 2 with issueQueue := [0] } State.reset).setEntry 0 (some (tag3 .ready 0 [])))
    (t.entry 0).map Entry.phase = some (.issuing 0) ∧ (t.bound 5).map BoundNode.nextSeq = some 1 ∧
      (frameOut t 1).map List.dropLast = some [0x02, 0x02, 0x06, 0x00, 0x00, 0x00, 0x40, 0x00, 0x28] := by decide +kernel

/-- ACCEPT(0) at 0: deadline 220, first-poll time 50. -/
theorem test_accept :
    let s := running 1 (exchange 5 2 (.request 0) none 0)
      (out121 (tag3 (.issuing 0) 0 []) { online 1 2 with issuingSeq := some 0 })
    let t := after (.accept 0 1 2 0) s
    (t.entry 0).map Entry.phase = some (.issued 0 2200 500 0) ∧ t.liveSeqs 5 = [0] := by decide +kernel

/-- The first segment at 62: PARTIAL, deadline 290, E 96, S 28, one block, acknowledgement (0, 16, ACCEPTED). -/
theorem test_segment_first :
    let s := running 1 (exchange 5 2 .poll none 600) (out121 (tag3 (.issued 0 2200 500 0) 0 []) (online 1 2))
    let t := after (.segment 620 1 2 0 0 0 (List.replicate 16 0xAB)) s
    (t.entry 0).map Entry.phase = some (.part 0 2900) ∧ (t.bound 5).map BoundNode.e = some 96 ∧
      (t.bound 5).map BoundNode.s = some 28 ∧ (t.bound 5).map BoundNode.pendingAck = some (some ⟨0, 16, .accepted⟩) ∧
        t.occupied.length = 1 := by decide +kernel

/-- The last segment at 78: DONE with OK, hold expiry 2078, the head of completion queue A, and ATNA falls. -/
theorem test_segment_last :
    let s := running 1 (exchange 5 2 .poll (some ⟨0, 32, .accepted⟩) 700)
      (out121 (tag3 (.part 0 2980) 32 [0, 1]) { online 1 2 with pendingAck := some ⟨0, 32, .accepted⟩ })
    let t := after (.segment 780 1 2 0 1 32 (List.replicate 8 0xCD)) s
    (t.entry 0).map Entry.phase = some (.done .ok (some 20780)) ∧ t.portA.completion = [0] ∧ t.committedTotal = 3 ∧
      atnHigh t .a = false := by decide +kernel

/-- PENDING with an empty list at 86: the back-off of 96/4 ticks ends at 110, and the acknowledgement is served. -/
theorem test_pending_empty :
    let s := running 1 (exchange 5 2 .poll (some ⟨0, 40, .accepted⟩) 800)
      (bind 5 { online 1 2 with e := 96, pendingAck := some ⟨0, 40, .accepted⟩ } State.reset)
    let t := after (.pending 860 1 2 []) s
    (t.bound 5).map BoundNode.earliestPoll = some (some 1100) ∧ (t.bound 5).map BoundNode.pendingAck = some none := by
  decide +kernel

/-- The COLLECT of the sequence: tag 3, node 5, READ, OK, SENT, retries 0, length 40, error code 00h, then the data. -/
theorem test_collect :
    let s := { State.reset with portA := { PortRec.powerOn with completion := [0] } }.setEntry 0
      (some (tag3 (.done .ok none) 40 [0, 1, 2]))
    let t := after (.collect 0 .a 0 (sent 0 .a .collect).check) s
    (response .a t).take 12 = [0x00, 0x00, 0x31, 0x03, 0x05, 0x00, 0x00, 0x01, 0x00, 0x00, 0x28, 0x00] ∧
      (response .a t).length = 53 := by decide +kernel

/-- Chip select rising after the check byte of that COLLECT frees the entry and releases its 3 blocks; ATNA rises. -/
theorem test_chipSelectRise_collected :
    let s := { State.reset with
        portA := { PortRec.powerOn with completion := [0], csLow := true, receiver := .trailing, collect := some ⟨0, false⟩ }
      }.setEntry 0 (some (tag3 (.done .ok none) 40 [0, 1, 2]))
    let t := after (.chipSelectRise 0 .a) s
    t.entry 0 = none ∧ t.committedTotal = 0 ∧ t.freeBlocks.length = 96 ∧ atnHigh t .a := by decide +kernel

/-! ## Section 12.2: a timeout, a retry and a late reply -/

/-- Tag 12 of port B at node 9, as entry 0. -/
def tag12 (phase : Phase) (retries : Nat) : Entry := { read 12 9 16 0 phase with port := .b, retries := retries }

/-- Deadline expiry at 220: READY at the head, retries 1, seq 4 abandoned, timeout count 1. -/
theorem test_deadlineExpiry_retries :
    let s := (bind 9 { online 0 0 with nextSeq := 5 } State.reset).setEntry 0 (some (tag12 (.issued 4 2200 500 0) 0))
    let t := after (.deadlineExpiry 2200 0) s
    t.entry 0 = some { tag12 .ready 1 with flags := ⟨true, false, false⟩ } ∧ t.issueQueue 9 = [0] ∧
      (t.bound 9).map BoundNode.abandoned = some [4] ∧ (t.bound 9).map BoundNode.timeouts = some 1 := by decide +kernel

/-- One microsecond earlier the deadline is not reached (R102). -/
theorem test_deadlineExpiry_early :
    let s := (bind 9 { online 0 0 with nextSeq := 5 } State.reset).setEntry 0 (some (tag12 (.issued 4 2200 500 0) 0))
    (after (.deadlineExpiry 2199 0) s).entry 0 = s.entry 0 := by decide +kernel

/-- The late segment at 241: dropped, seq 4 leaves the abandoned set, DISCARD owed, LATE on both ports. -/
theorem test_segment_late :
    let s := running 0 (exchange 9 0 .poll none 2390)
      ((bind 9 { online 0 0 with nextSeq := 6, abandoned := [4] } State.reset).setEntry 0
        (some (tag12 (.issued 5 4440 2740 2240) 1)))
    let t := after (.segment 2410 0 0 4 1 0 (List.replicate 16 1)) s
    t.entry 0 = s.entry 0 ∧ (t.bound 9).map BoundNode.abandoned = some [] ∧
      (t.bound 9).map BoundNode.pendingAck = some (some ⟨4, 0, .discard⟩) ∧ t.portA.events = [.late] ∧
        t.portB.events = [.late] := by decide +kernel

/-- The segment at 249 completes the second issue: E 91, S 37, timeout count 0. -/
theorem test_segment_completes_retry :
    let s := running 0 (exchange 9 0 .poll (some ⟨4, 0, .discard⟩) 2450)
      ((bind 9 { online 0 0 with nextSeq := 6, timeouts := 1, pendingAck := some ⟨4, 0, .discard⟩ } State.reset).setEntry 0
        (some (tag12 (.issued 5 4440 2740 2240) 1)))
    let t := after (.segment 2490 0 0 5 1 0 (List.replicate 16 1)) s
    (t.entry 0).map Entry.phase = some (.done .ok (some 22490)) ∧ (t.bound 9).map BoundNode.e = some 91 ∧
      (t.bound 9).map BoundNode.s = some 37 ∧ (t.bound 9).map BoundNode.timeouts = some 0 := by decide +kernel

/-! ## Section 12.3: overcommitment and HOLD -/

/-- The free pool is empty: tag 6's segment at 224 is answered HOLD, OVERRUN is raised and the back-off is 10 ticks. -/
theorem test_segment_hold :
    let full := { read 0 2 256 0 (.done .ok none) with received := 256, blocks := allBlocks.take 16 }
    let s := running 0 (exchange 2 0 .poll none 0)
      (((bind 2 (online 0 0) { State.reset with params := { GlobalParams.powerOn with limit := 120 } }).setEntry 6
        (some { read 6 2 256 0 (.part 1 900) with received := 224, blocks := (allBlocks.drop 80).take 14 })).setEntry 7
        (some { read 7 3 256 0 (.part 1 900) with received := 32, blocks := allBlocks.drop 94 }) |>.setEntry 0
        (some { full with received := 1280, blocks := allBlocks.take 80 }))
    let t := after (.segment 100 0 0 1 1 224 (List.replicate 32 0)) s
    (t.entry 6).map Entry.received = some 224 ∧ (t.bound 2).map BoundNode.pendingAck = some (some ⟨1, 224, .hold⟩) ∧
      (t.bound 2).map BoundNode.earliestPoll = some (some 200) ∧ t.portA.events = [.overrun] := by decide +kernel

/-! ## Section 12.4: a cancel racing the last segment -/

/-- CANCEL taken first: DONE with CANCELLED and SENT, seq 6 abandoned, the acknowledgement kept, 3 blocks released. -/
theorem test_cancel :
    let s := (bind 5 { online 1 2 with pendingAck := some ⟨6, 32, .accepted⟩ } State.reset).setEntry 0
      (some { read 20 5 40 0 (.part 6 900) with port := .b, received := 32, blocks := [0, 1] })
    let t := after (.cancel 0 .b 0 20 (sent 0 .b (.cancel 20)).check) s
    (t.entry 0).map Entry.phase = some (.done .cancelled (some 20000)) ∧
      (t.bound 5).map BoundNode.abandoned = some [6] ∧ t.committedTotal = 0 ∧ t.portB.completion = [0] ∧
        response .b t = (Reply.bare .ok).frame := by decide +kernel

/-- Segment taken first: CANCEL is answered ALREADY_DONE. -/
theorem test_cancel_done :
    let s := { State.reset with portB := { PortRec.powerOn with completion := [0] } }.setEntry 0
      (some { read 20 5 40 0 (.done .ok none) with port := .b, received := 40, blocks := [0, 1, 2] })
    response .b (after (.cancel 0 .b 0 20 (sent 0 .b (.cancel 20)).check) s) = (Reply.bare .alreadyDone).frame := by
  decide +kernel

/-! ## Section 12.5: bring-up -/

theorem test_echo :
    response .a (after (.echo 0 .a 0 [1, 2, 3] (sent 0 .a (.echo [1, 2, 3])).check) State.reset)
      = closed [0x00, 0x00, 0x03, 0x01, 0x02, 0x03] := by decide +kernel

/-- SET_PARAM 002Dh = 0001h enables NODE_CHANGE toward ATNA, and leaves port B's enables clear. -/
theorem test_setParam_enable :
    let t := after (.setParam 0 .a 0 0x002D 1 (sent 0 .a (.setParam 0x002D 1)).check) State.reset
    t.portA.params.enables = [.nodeChange] ∧ t.portB.params.enables = [] := by decide +kernel

/-- A commitment limit below the committed total is answered LIMIT_CONFLICT (R35). -/
theorem test_setParam_conflict :
    let s := start121.setEntry 0 (some (tag3 (.issuing 0) 0 []))
    response .a (after (.setParam 0 .a 0 0x0001 2 (sent 0 .a (.setParam 0x0001 2)).check) s)
      = (Reply.bare .limitConflict).frame := by decide +kernel

theorem test_nodeAttach :
    let t := after (.nodeAttach 70 .a 0 5 1 2 4 0 (sent 0 .a (.nodeAttach 5 1 2 4 0)).check) State.reset
    (t.bound 5).map BoundNode.health = some (.probing (some 70)) ∧ (t.bound 5).map BoundNode.e = some 100 ∧
      t.portA.events = [.nodeChange] ∧ t.portB.events = [.nodeChange] := by decide +kernel

/-- NODE_ATTACH on port B is answered NOT_PERMITTED (R164). -/
theorem test_nodeAttach_portB :
    response .b (after (.nodeAttach 0 .b 0 5 1 2 4 0 (sent 0 .b (.nodeAttach 5 1 2 4 0)).check) State.reset)
      = (Reply.bare .notPermitted).frame := by decide +kernel

/-- DL1 grants the RESET of node 5 and the last granted drop becomes 2. -/
theorem test_lineGrant_reset :
    let s := bind 5 { online 1 2 with health := .probing (some 0), advert := none } State.reset
    let t := after (.lineGrant 0 1) s
    (t.line 1).lastGranted = 2 ∧ frameOut t 1 = some (resetFrame 2) ∧ directionHigh t 1 := by decide +kernel

/-- IDENT with class 17h and window 2: ONLINE, advertised window 2, NODE_CHANGE. -/
theorem test_ident :
    let s := running 1 (exchange 5 2 .reset none 0)
      (bind 5 { online 1 2 with health := .probing none, advert := none } State.reset)
    let t := after (.ident 50 1 2 0x17 2) s
    (t.bound 5).map BoundNode.health = some .online ∧ (t.bound 5).map BoundNode.advert = some (some ⟨2, 0x17⟩) ∧
      t.portA.events = [.nodeChange] := by decide +kernel

/-- READ_EVENTS answers the event word, NODE_CHANGE at bit 5 (section 11.2), and keeps the set until it is shifted out. -/
theorem test_readEvents :
    let s := { State.reset with portA := { PortRec.powerOn with events := [.nodeChange, .hostFrameError] } }
    let t := after (.readEvents 0 .a 0 (sent 0 .a .readEvents).check) s
    response .a t = closed [0x00, 0x00, 0x02, 0x01, 0x20] ∧ t.portA.events = [.nodeChange, .hostFrameError] := by
  decide +kernel

/-- Three failed attempts: the third silence of the RESET exchange ends it, and the probe time is one interval ahead. -/
theorem test_responseWindowExpiry_third :
    let s := running 1 { exchange 5 2 .reset none 0 with attempt := 3 }
      (bind 5 { online 1 2 with health := .probing none, advert := none } State.reset)
    let t := after (.responseWindowExpiry 200 1) s
    (t.bound 5).map BoundNode.health = some (.probing (some 10200)) ∧ (t.line 1).state = .idle ∧
      (t.line 1).counters = ⟨0, 1, 0, 0, 1⟩ ∧ (t.node 5).counters.probes = 1 ∧ t.portB.events = [.lineError] := by
  decide +kernel

/-- The first silence is followed by the same frame again (R76). -/
theorem test_responseWindowExpiry_first :
    let s := running 1 (exchange 5 2 .reset none 0)
      (bind 5 { online 1 2 with health := .probing none, advert := none } State.reset)
    (after (.responseWindowExpiry 200 1) s).line 1
      = { s.line 1 with
          counters := ⟨0, 1, 0, 0, 0⟩
          state := .exchanging false { exchange 5 2 .reset none 0 with attempt := 2, phase := .sending } } := by
  decide +kernel

/-! ## The tables of Chapter 5 -/

/-- The four rows of R94. -/
theorem test_estimate_table :
    (nextE 100 180, nextS 100 25 180) = (110, 38) ∧ (nextE 110 40, nextS 110 38 40) = (102, 46) ∧
      (nextE 102 107, nextS 102 46 107) = (102, 36) ∧ (nextE 102 4095, nextS 102 36 4095) = (601, 1025) := by
  decide +kernel

/-- The first and the last row of R97, and FIXED mode of R98. -/
theorem test_deadline_table :
    deadlineTicks start121 5 = 220 ∧
      deadlineTicks (bind 5 { online 1 2 with e := 601, s := 1025 } State.reset) 5 = 4095 ∧
        deadlineTicks (start121.modNode 5 fun r => { r with params := { r.params with mode := .fixed } }) 5 = 500 := by
  decide +kernel

/-! ## The other commands -/

/-- A write is READY at once, with no commitment and whatever waits at admission (R8). -/
theorem test_submitWrite :
    let t := after (.submitWrite 0 .a 0 1 5 0 [7, 8, 9] (sent 0 .a (.submitWrite 1 5 0 [7, 8, 9])).check) start121
    t.issueQueue 5 = [0] ∧ t.committedTotal = 0 ∧ (t.entry 0).map Entry.payload = some [7, 8, 9] := by decide +kernel

/-- QUERY of a DONE entry (section 11.2): state 06h, kind, node, retries, flags, position 0, FFh, length 40, OK, 00h. -/
theorem test_query :
    let s := { State.reset with portA := { PortRec.powerOn with completion := [0] } }.setEntry 0
      (some (tag3 (.done .ok none) 40 [0, 1, 2]))
    response .a (after (.query 0 .a 0 3 (sent 0 .a (.query 3)).check) s)
      = closed [0x00, 0x00, 0x0B, 0x06, 0x00, 0x05, 0x00, 0x01, 0x00, 0xFF, 0x00, 0x28, 0x00, 0x00] := by decide +kernel

/-- PORT_STATUS with the clear flag reports the counters, itself counted, and then they are 0 (R168, R171). -/
theorem test_portStatus_clears :
    let s := { State.reset with portA := { PortRec.powerOn with counters := ⟨9, 2, 3⟩, discards := 0x0102 } }
    let t := after (.portStatus 0 .a 1 (crc8 ((HostCommand.portStatus true).bytes 1))) s
    response .a t = closed [0x00, 0x00, 0x0E, 0, 24, 0, 1, 2, 0, 0, 0, 0, 10, 0, 2, 0, 3] ∧
      t.portA.counters = ⟨0, 0, 0⟩ ∧ t.portA.discards = 0 := by decide +kernel

/-- PORT_RESET frees the port's entries and leaves the other port's (R148). -/
theorem test_portReset :
    let s := (start121.setEntry 0 (some (tag3 (.part 4 900) 0 []))).setEntry 1 (some { tag3 (.part 6 900) 0 [] with port := .b })
    let t := after (.portReset 0 .a 0 (sent 0 .a .portReset).check) s
    t.entry 0 = none ∧ t.entry 1 = s.entry 1 ∧ (t.bound 5).map BoundNode.abandoned = some [4] := by decide +kernel

/-- NODE_DETACH ends the node's entries with DETACHED (R56, R147). -/
theorem test_nodeDetach :
    let t := after (.nodeDetach 0 .a 0 5 (sent 0 .a (.nodeDetach 5)).check) (start121.setEntry 0 (some (tag3 (.issued 0 9 9 0) 0 [])))
    (t.entry 0).map Entry.phase = some (.done .detached (some 20000)) ∧ t.bound 5 = none := by decide +kernel

/-- NODE_REPROBE withdraws the live entries: the READ is READY uncharged, the WRITE is LOST (R57). -/
theorem test_nodeReprobe :
    let s := (start121.setEntry 0 (some (tag3 (.part 0 900) 0 []))).setEntry 1 (some (write 4 5 [1] 0 (.issued 1 9 9 0)))
    let t := after (.nodeReprobe 30 .a 0 5 (sent 0 .a (.nodeReprobe 5)).check) s
    (t.entry 0).map Entry.phase = some .ready ∧ (t.entry 0).map Entry.retries = some 0 ∧
      (t.entry 1).map Entry.phase = some (.done .lost (some 20030)) ∧
        (t.bound 5).map BoundNode.health = some (.probing (some 30)) := by decide +kernel

/-- NODE_STATUS of an ABSENT node (section 11.2): the node, state 00h, and the parameters at their power-on values. -/
theorem test_nodeStatus :
    let r := response .a (after (.nodeStatus 0 .a 0 5 (sent 0 .a (.nodeStatus 5 false)).check) State.reset)
    r.take 9 = [0x00, 0x00, 0x35, 0x05, 0x00, 0x00, 0x00, 0x00, 0x04] ∧ r.length = 57 ∧
      (r.drop 36).take 12 = [0x00, 0x01, 0xF4, 0x00, 0x64, 0x00, 0x19, 0x07, 0xD0, 0x01, 0x03, 0x03] := by decide +kernel

/-- LINE_STATUS of line 1 with a POLL of node 5 in flight (section 11.2). -/
theorem test_lineStatus :
    let s := running 1 (exchange 5 2 .poll none 0) start121
    (response .b (after (.lineStatus 0 .b 0 1 (sent 0 .b (.lineStatus 1 false)).check) s)).take 19
      = [0x00, 0x00, 0x1A, 0x01, 0x02, 0x01, 0x00, 0x03, 0xFF, 0xFF, 0x05, 0xFF, 0x01, 0x05, 0x02, 0x03, 0xFF, 0x01, 0x00] := by
  decide +kernel

/-- GET_PARAM of the response window, 200 µs at power-on (R178, R183). -/
theorem test_getParam :
    response .b (after (.getParam 0 .b 0 0x0002 (sent 0 .b (.getParam 0x0002)).check) State.reset)
      = closed [0x00, 0x00, 0x02, 0x00, 0xC8] := by decide +kernel

/-- DEVICE_RESET frees every entry and probes every bound node again (R152). -/
theorem test_deviceReset :
    let s := start121.setEntry 0 (some (tag3 (.part 0 900) 0 []))
    let t := after (.deviceReset 40 .a 0 (sent 0 .a .deviceReset).check) s
    t.entry 0 = none ∧ (t.bound 5).map BoundNode.health = some (.probing (some 40)) ∧
      (t.bound 5).map BoundNode.line = some 1 := by decide +kernel

theorem test_chipSelectFall : (after (.chipSelectFall 0 .b) State.reset).portB.receiver = .command [] := by decide +kernel

/-- Chip select rising inside a frame cuts it (R160). -/
theorem test_chipSelectRise_cuts :
    let s := { State.reset with portA := { PortRec.powerOn with csLow := true, receiver := .command [0x20] } }
    let t := after (.chipSelectRise 0 .a) s
    t.portA.counters.cut = 1 ∧ t.portA.events = [.hostFrameError] := by decide +kernel

/-- RSTN low makes an open window IGNORING until chip select rises (R156, R158). -/
theorem test_rstnLow :
    let s := { start121 with portA := { PortRec.powerOn with csLow := true, receiver := .command [0x20] } }
    let t := after (.rstnLow 5) s
    t.portA.receiver = .ignoring ∧ t.bound 5 = none ∧ t.rstnLow := by decide +kernel

theorem test_rstnRise : (after (.rstnRise 5) (after (.rstnLow 4) start121)) = { State.reset with now := 5 } := by decide +kernel

theorem test_frameSent :
    let s := running 1 { exchange 5 2 .poll none 0 with phase := .sending } start121
    ((after (.frameSent 30 1) s).line 1).state = .exchanging false (exchange 5 2 .poll none 30) := by decide +kernel

/-- REFUSE FULL returns the entry to READY uncharged and starts a refuse back-off of 20 ticks (R110). -/
theorem test_refuse_full :
    let s := running 1 (exchange 5 2 (.request 0) none 0)
      (out121 (tag3 (.issuing 0) 0 []) { online 1 2 with issuingSeq := some 0 })
    let t := after (.refuse 100 1 2 0 1) s
    (t.entry 0).map Entry.phase = some .ready ∧ (t.bound 5).map BoundNode.refuseEnd = some (some 300) := by decide +kernel

/-- REFUSE BAD_LENGTH ends it with NODE_ERROR F1h (R111). -/
theorem test_refuse_length :
    let s := running 1 (exchange 5 2 (.request 0) none 0)
      (out121 (tag3 (.issuing 0) 0 []) { online 1 2 with issuingSeq := some 0 })
    ((after (.refuse 100 1 2 0 3) s).entry 0).map Entry.phase = some (.done (.nodeError 0xF1) (some 20100)) := by decide +kernel

/-- FAULT ends the entry with the node's code and leaves no acknowledgement (R117). -/
theorem test_fault :
    let s := running 1 (exchange 5 2 .poll none 0) (out121 (tag3 (.part 0 2900) 16 [0]) (online 1 2))
    let t := after (.fault 100 1 2 0 0x42) s
    (t.entry 0).map Entry.phase = some (.done (.nodeError 0x42) (some 20100)) ∧
      (t.bound 5).map BoundNode.pendingAck = some none := by decide +kernel

/-- A PENDING that does not list a live READ below the retry limit returns it to READY charged (R122). -/
theorem test_pending_lost :
    let s := running 1 (exchange 5 2 .poll none 0) (out121 (tag3 (.part 0 2900) 16 [0]) (online 1 2))
    let t := after (.pending 100 1 2 []) s
    (t.entry 0).map Entry.phase = some .ready ∧ (t.entry 0).map Entry.retries = some 1 ∧ t.occupied = [] := by decide +kernel

/-- A broken answer fails its attempt on the frame-check counter (R76). -/
theorem test_brokenAnswer :
    let s := running 1 (exchange 5 2 .poll none 0) start121
    ((after (.brokenAnswer 200 1) s).line 1).counters = ⟨0, 0, 1, 0, 0⟩ := by decide +kernel

/-- Bytes with their stop bits. -/
def clean (bytes : List Byte) : List LineByte := bytes.map fun b => ⟨b, true⟩

/-- Bytes received one byte time after the other, the last of them now. -/
def paced : List LineByte → List HeardByte
  | [] => []
  | b :: rest => ⟨b, 40 * rest.length⟩ :: paced rest

/-- A good check byte with another node's drop fails the attempt on the mismatch counter; a bad one, and a byte without its
stop bit, on frame-check (R76, R189). -/
theorem test_invalidAnswer :
    let s := running 1 (exchange 5 2 .poll none 0) start121
    let good := closed [0x85, 0x02, 0x00]
    ((after (.invalidAnswer 200 1 (paced (clean (closed [0x85, 0x01, 0x00])))) s).line 1).counters = ⟨0, 0, 0, 1, 0⟩ ∧
      ((after (.invalidAnswer 200 1 (paced (clean (good.dropLast ++ [good.getD 3 0 + 1])))) s).line 1).counters = ⟨0, 0, 1, 0, 0⟩ ∧
      ((after (.invalidAnswer 200 1 (paced (clean good.dropLast ++ [⟨good.getD 3 0, false⟩]))) s).line 1).counters
        = ⟨0, 0, 1, 0, 0⟩ ∧
      ((after (.invalidAnswer 200 1 (paced (clean good))) s).line 1).counters = ⟨1, 0, 0, 0, 0⟩ := by decide +kernel

/-- Once a byte has been received, the attempt does not end as one without an answer, but after a whole window of quiet, on
frame-check; the rest of the answer in time ends it as the answer (R74). -/
theorem test_begunAnswer :
    let s := running 1 (exchange 5 2 .poll none 0) start121
    let begun := running 1 { exchange 5 2 .poll none 0 with phase := .receiving (clean [0x85, 0x02]) 150 } (start121.advance 150)
    after (.invalidAnswer 150 1 (paced (clean [0x85, 0x02]))) s = begun ∧ after (.responseWindowExpiry 200 1) begun = begun.advance 200 ∧
      after (.brokenAnswer 349 1) begun = begun.advance 349 ∧
      ((after (.brokenAnswer 350 1) begun).line 1).counters = ⟨0, 0, 1, 0, 0⟩ ∧
      ((after (.pending 390 1 2 []) begun).line 1).counters = ⟨1, 0, 0, 0, 0⟩ := by decide +kernel

/-- An answer of four bytes whose last comes later than four windows of 200 µs and four byte times of 40 µs is none (R74). -/
theorem test_lateAnswer :
    let s := running 1 (exchange 5 2 .poll none 0) start121
    after (.pending 960 1 2 []) s = s.advance 960 ∧
      ((after (.pending 959 1 2 []) s).line 1).counters = ⟨1, 0, 0, 0, 0⟩ := by decide +kernel

/-- Bytes behind the end of an answer are discarded, however late they come, and the answer is handled at the time of its own
last byte: five bytes received by 200, and 25 more by 1200. A byte that begins after the window of 200 µs is none (R74). -/
theorem test_surplusBytes :
    let s := running 1 (exchange 5 2 .poll none 0) start121
    let t := after (.invalidAnswer 1200 1 (paced (clean (closed [0x85, 0x02, 0x01, 0x00]) ++ List.replicate 25 ⟨7, false⟩))) s
    (t.line 1).counters = ⟨1, 0, 0, 0, 0⟩ ∧ t.now = 1200 ∧ (t.bound 5).map BoundNode.lastGood = some (some 200) ∧
      after (.invalidAnswer 240 1 (paced [⟨0x85, true⟩])) s = s.advance 240 ∧
      after (.invalidAnswer 239 1 (paced [⟨0x85, true⟩])) s ≠ s.advance 239 := by decide +kernel

/-- Hold expiry discards the entry, counts it and raises DISCARDED (R137). -/
theorem test_holdExpiry :
    let s := { State.reset with portA := { PortRec.powerOn with completion := [0] } }.setEntry 0
      (some (tag3 (.done .ok (some 20000)) 40 [0, 1, 2]))
    let t := after (.holdExpiry 20000 0) s
    t.entry 0 = none ∧ t.portA.completion = [] ∧ t.portA.discards = 1 ∧ t.portA.events = [.discarded] := by decide +kernel

/-- The times that gate a candidate: now reaches them and the candidate is presented (R83, R84, R99). -/
theorem test_gates :
    candidate (after (.probeTime 70 5) State.reset) 5 { online 1 2 with health := .probing (some 70) } = some .reset ∧
      candidate (after (.suspectCheckTime 70 5) State.reset) 5 { online 1 2 with health := .suspect 70 } = some .poll ∧
        candidate (after (.firstPollTime 500 0) (out121 (tag3 (.issued 0 2200 500 0) 0 []) (online 1 2))) 5 (online 1 2)
          = some .poll := by decide +kernel

/-- The ends of the back-offs (R86): reached at 50, not at 49. -/
theorem test_backOff_ends :
    let s := bind 5 { online 1 2 with earliestPoll := some 50, refuseEnd := some 50 } State.reset
    ((after (.earliestPollTimeEnd 50 5) s).bound 5).map BoundNode.earliestPoll = some none ∧
      ((after (.refuseBackOffEnd 50 5) s).bound 5).map BoundNode.refuseEnd = some none ∧
        ((after (.refuseBackOffEnd 49 5) s).bound 5).map BoundNode.refuseEnd = some (some 50) := by decide +kernel

/-- The check byte's place: a COLLECT clocked byte by byte is answered at its fifth byte (R158, R159). -/
theorem test_byteClocked :
    let s := { State.reset with portA := { PortRec.powerOn with csLow := true, receiver := .command [0x20, 0, 0, 0] } }
    response .a (after (.byteClocked 0 .a (crc8 [0x20, 0, 0, 0])) s) = (Reply.bare .empty).frame := by decide +kernel

/-! ## A busy part

Four lines, seven nodes and nine entries, from which most witnesses are taken: line 0 awaits the answer to a POLL of node 0, line 1
that to a REQUEST of node 1 under seq 0, line 2 that to a RESET of node 2; line 3 is IDLE with node 3 ONLINE at drop 0, node 4
SUSPECT at drop 1 with its check due, node 5 PROBING at drop 2 and due, node 6 OFFLINE at drop 3. -/

/-- Entries 0 to 2 at node 0 (READ ISSUED under 1, READ PARTIAL under 2, WRITE ISSUED under 3), entry 3 ISSUING at node 1, entry 4
READY and entry 5 WAITING at node 3, entries 6 and 7 DONE on port A, entry 8 DONE on port B. -/
def busyEntry : List (EntryIx × Entry) :=
  [(0, read 0 0 20 1 (.issued 1 3000 900 500)),
   (1, { read 1 0 20 2 (.part 2 4000) with received := 16, blocks := [5] }),
   (2, write 2 0 [1, 2, 3] 3 (.issued 3 3000 900 500)),
   (3, read 3 1 10 4 (.issuing 0)),
   (4, read 4 3 256 0 .ready),
   (5, { read 5 3 256 0 .waiting with committed := 0, flags := ⟨false, false, false⟩ }),
   (6, { read 6 0 16 5 (.done .ok (some 5000)) with received := 16, blocks := [7] }),
   (7, write 7 0 [9] 6 (.done (.nodeError 0x55) none)),
   (8, { read 0 0 256 7 (.done .timeout (some 6000)) with port := .b, committed := 0 })]

def busy : State :=
  let base : State :=
    { State.reset with
      now := 1000
      admission := [5]
      portA :=
        { PortRec.powerOn with
          completion := [6, 7], events := [.delayed, .nodeChange], counters := ⟨5, 1, 2⟩, discards := 1 }
      portB := { PortRec.powerOn with completion := [8] }
      params := { GlobalParams.powerOn with limit := 30 }
      stamp := 20 }
  let nodes : State :=
    bind 0 { online 0 0 with nextSeq := 4, abandoned := [4] } <|
    bind 1 { online 1 0 with nextSeq := 1, issuingSeq := some 0 } <|
    bind 2 { online 2 1 with health := .probing none, advert := none } <|
    bind 3 { online 3 0 with issueQueue := [4] } <|
    bind 4 { online 3 1 with health := .suspect 1000 } <|
    bind 5 { online 3 2 with health := .probing (some 1000) } <|
    bind 6 { online 3 3 with health := .offline } base
  let lines : State :=
    running 0 (exchange 0 0 .poll none 990) <|
    running 1 (exchange 1 0 (.request 0) none 990) <|
    running 2 (exchange 2 1 .reset none 990) nodes
  busyEntry.foldl (fun s x => s.setEntry x.1 (some x.2)) lines

theorem busy_lawful : Lawful busy := lawful_of_decide (by decide +kernel)

theorem busy_idle (p : Port) : (busy.port p).receiver = .idle := by cases p <;> decide +kernel

/-- The entry at `i`, found by evaluation to be of a kind. -/
theorem entry_of_any {s : State} {i : EntryIx} {P : Entry → Prop} [DecidablePred P]
    (h : ((s.entry i).any fun e => decide (P e)) = true) : ∃ e, s.entry i = some e ∧ P e := by
  cases hs : s.entry i with
  | none => simp [hs] at h
  | some e => exact ⟨e, rfl, by simpa [hs] using h⟩

/-- The entry at `i` that a tag names, found by evaluation to be of a kind. -/
theorem names_of_any {s : State} {p : Port} {tag : Byte} {i : EntryIx} {P : Entry → Prop} [DecidablePred P]
    (h : ((s.entry i).any fun e => decide ((e.port = p ∧ e.tag.val = tag.toNat) ∧ P e)) = true) :
    ∃ e, s.names p tag i e ∧ P e := by
  obtain ⟨e, he, hn, hp⟩ := entry_of_any h
  exact ⟨e, ⟨he, hn⟩, hp⟩

/-- A frame of a command to an IDLE port of the busy part. -/
theorem busy_brings (p : Port) (c : HostCommand) (hp : parseCommand c.code 0 c.payload = .command c)
    (hl : c.payload.length ≤ maxDeclared) : (sent 1000 p c).brings c busy :=
  sent_brings (f := sent 1000 p c) (by decide +kernel) (busy_idle p) hp hl rfl

/-- A frame of a command to an IDLE port right after reset. -/
theorem reset_brings (p : Port) (c : HostCommand) (hp : parseCommand c.code 0 c.payload = .command c)
    (hl : c.payload.length ≤ maxDeclared) : (sent 0 p c).brings c State.reset :=
  sent_brings (f := sent 0 p c) rfl (by cases p <;> rfl) hp hl rfl

/-- A state in which line `l` of `s` serves the exchange `x` with the node whose record is `b`, no byte received yet. -/
theorem serves_intro {s : State} {t opened : Time} {l : LineIx} {x : Exchange} {b : BoundNode} {type drop : Byte}
    {body : List Byte} (hr : s.rstnLow = false) (hl : (s.line l).state = .exchanging false x)
    (hp : x.phase = .awaiting opened) (ht : max s.now t < opened + (x.window + 40)) (ha : x.abandoned = false)
    (hb : s.bound x.node = some b) : serves s t l x b (answerBytes type drop body) := by
  refine ⟨hr, ⟨[], opened, ⟨⟨false, hl⟩, .inl ⟨hp, rfl⟩⟩, List.nil_prefix, by simp [answerBytes, closed], lt_of_lt_of_le ht ?_⟩, ha, hb⟩
  simp [answerBytes, closed]

/-- The POLL exchange of line 0 and the record of node 0. -/
abbrev poll0 : Exchange := exchange 0 0 .poll none 990
abbrev node0 : BoundNode := { online 0 0 with nextSeq := 4, abandoned := [4] }

theorem busy_serves_poll {type drop : Byte} {body : List Byte} :
    serves busy 1000 0 poll0 node0 (answerBytes type drop body) :=
  serves_intro (by decide +kernel) (by decide +kernel) rfl (by decide +kernel) rfl (by decide +kernel)

/-- The REQUEST exchange of line 1 and the record of node 1. -/
abbrev request1 : Exchange := exchange 1 0 (.request 0) none 990
abbrev node1 : BoundNode := { online 1 0 with nextSeq := 1, issuingSeq := some 0 }

theorem busy_serves_request {type drop : Byte} {body : List Byte} :
    serves busy 1000 1 request1 node1 (answerBytes type drop body) :=
  serves_intro (by decide +kernel) (by decide +kernel) rfl (by decide +kernel) rfl (by decide +kernel)

/-- The RESET exchange of line 2 and the record of node 2. -/
abbrev reset2 : Exchange := exchange 2 1 .reset none 990
abbrev node2 : BoundNode := { online 2 1 with health := .probing none, advert := none }

theorem busy_serves_reset {type drop : Byte} {body : List Byte} :
    serves busy 1000 2 reset2 node2 (answerBytes type drop body) :=
  serves_intro (by decide +kernel) (by decide +kernel) rfl (by decide +kernel) rfl (by decide +kernel)

/-- The answer to the POLL of line 0 has begun: the header of a PENDING with one seq was received at 995. -/
abbrev begun0 : Exchange := { poll0 with phase := .receiving (clean [0x85, 0x00, 0x01]) 995 }
def begun : State := running 0 begun0 busy

theorem begun_lawful : Lawful begun := lawful_of_decide (by decide +kernel)

theorem busy_hears : hears busy 0 poll0 [] 990 := ⟨⟨false, by decide +kernel⟩, .inl ⟨rfl, rfl⟩⟩

theorem begun_hears : hears begun 0 begun0 (clean [0x85, 0x00, 0x01]) 995 := ⟨⟨false, by decide +kernel⟩, .inr rfl⟩

/-- The rest of that PENDING comes in time until two windows and two byte times have passed since the last byte. -/
theorem begun_serves : serves begun 1474 0 begun0 node0 (answerBytes 0x85 0x00 [0x04]) :=
  ⟨by decide +kernel, ⟨_, 995, begun_hears, by decide +kernel, by decide +kernel, by decide +kernel⟩, rfl, by decide +kernel⟩

/-- Entry 3 has gone from the busy part, the REQUEST for it still in flight. -/
def cancelled : State := busy.setEntry 3 none

theorem cancelled_lawful : Lawful cancelled := lawful_of_decide (by decide +kernel)

/-- Node 1 is PROBING, the REQUEST for its entry still in flight (R58). -/
def reprobed : State := busy.modBound 1 fun b => { b with health := .probing (some 1000) }

theorem reprobed_lawful : Lawful reprobed := lawful_of_decide (by decide +kernel)

/-- The buffer is full: five DONE reads hold 80 blocks, two PARTIAL reads of node 0 the other 16, under a limit of 120. -/
def full : State :=
  let base : State :=
    { State.reset with
      params := { GlobalParams.powerOn with limit := 120 }
      portA := { PortRec.powerOn with completion := [0, 1, 2, 3, 4] } }
  let done := ([0, 1, 2, 3, 4] : List (Fin 5)).foldl (fun s i =>
    s.setEntry (i.castLE (by decide)) (some
      { read (i.castLE (by decide)) 0 256 0 (.done .ok none) with
        received := 256, blocks := (allBlocks.drop (16 * i.val)).take 16 })) base
  (((running 0 poll0 (bind 0 (online 0 0) done)).setEntry 5
    (some { read 5 0 256 1 (.part 1 900) with received := 224, blocks := (allBlocks.drop 80).take 14 })).setEntry 6
    (some { read 6 0 256 2 (.part 2 900) with received := 32, blocks := allBlocks.drop 94 }))

theorem full_lawful : Lawful full := lawful_of_decide (by decide +kernel)

/-! ## Witnesses: a state and operands that meet the hypotheses of each statement -/

theorem witness_StepRunsTheFrontCommand : State.reset.pending = [] := rfl

/-- For the statements of what every step keeps: a lawful state with a command in its queue, and the state after it. -/
theorem witness_StepKeeps :
    Lawful { busy with pending := [.lineGrant 1000 3] } ∧
      step { busy with pending := [.lineGrant 1000 3] } = .next (after (.lineGrant 1000 3) busy) :=
  ⟨lawful_of_decide (by decide +kernel), rfl⟩

theorem witness_NoHoldWithinTheBuffer :
    Lawful busy ∧ busy.params.limit ≤ 96 ∧
      ∃ e, busy.entry 1 = some e ∧ e.kind = .read ∧ e.phase.liveSeq.isSome :=
  ⟨busy_lawful, by decide +kernel, { read 1 0 20 2 (.part 2 4000) with received := 16, blocks := [5] },
    by decide +kernel, rfl, rfl⟩

theorem witness_ByteByByteIsTheCommand :
    hostFrame (.collect 1000 .a 0 0) = some ⟨1000, .a, 0, .collect, 0⟩ ∧ HostCommand.collect.payload.length < 65536 ∧
      busy.rstnLow = false ∧ (busy.port .a).receiver = .idle ∧ (busy.port .a).csLow = false := by decide +kernel

/-- A COLLECT whose check byte is wrong. -/
theorem witness_BadFramesAreRefused_broken :
    hostFrame (.collect 0 .a 0 0) = some ⟨0, .a, 0, .collect, 0⟩ ∧ HostFrame.receivable ⟨0, .a, 0, .collect, 0⟩ busy ∧
      ¬HostFrame.intact ⟨0, .a, 0, .collect, 0⟩ :=
  ⟨rfl, ⟨by decide +kernel, .inl (by decide +kernel)⟩, fun h => absurd h.2.2 (by decide +kernel)⟩

/-- Port A of the busy part in a window whose frame so far is `bytes`. -/
def inFrame (bytes : List Byte) : State :=
  { busy with portA := { busy.portA with csLow := true, receiver := .command bytes } }

theorem inFrame_command (bytes : List Byte) :
    (inFrame bytes).rstnLow = false ∧ ((inFrame bytes).port .a).receiver = .command bytes :=
  ⟨by simp only [inFrame]; decide +kernel, rfl⟩

/-- A declared length of 69 under a known and an unknown code; a check byte that is wrong under a known and an unknown code; the
unknown code 99h with an empty payload and with 68 bytes; a COLLECT with one byte, a SUBMIT_WRITE with 3 and an ECHO with 65. -/
theorem witness_BadFramesAreRefused_clocked :
    (∀ bytes : List Byte, (inFrame bytes).rstnLow = false ∧ ((inFrame bytes).port .a).receiver = .command bytes) ∧
    68 < (0 : Byte).toNat * 256 + (69 : Byte).toNat ∧
    ((0 : Byte).toNat * 256 + (68 : Byte).toNat ≤ 68 ∧
      (List.replicate 68 (0 : Byte)).length = (0 : Byte).toNat * 256 + (68 : Byte).toNat) ∧
    (∀ code ∈ [(0x20 : Byte), 0x99], (0 : Byte) ≠ crc8 ([code, 0, 0, 0] ++ [])) ∧ (0x99 : Byte) ∉ commandCodes ∧
    (((0x20 : Byte), 0, 0) ∈ acceptedLengths ∧ 0 < (0 : Byte).toNat * 256 + (1 : Byte).toNat) ∧
    (((0x11 : Byte), 4, 68) ∈ acceptedLengths ∧ (0 : Byte).toNat * 256 + (3 : Byte).toNat < 4) ∧
    ((0x60 : Byte), 0, 64) ∈ acceptedLengths ∧ 64 < (0 : Byte).toNat * 256 + (65 : Byte).toNat :=
  ⟨inFrame_command, by decide +kernel⟩

/-- Every code is in the table of accepted lengths once. -/
theorem test_acceptedLengths : acceptedLengths.map Prod.fst = commandCodes := by decide

theorem witness_NothingActsWhileRstnIsLow : { busy with rstnLow := true }.rstnLow = true := rfl

theorem witness_CutFrameIsCounted :
    let cut : State := { busy with portA := { busy.portA with csLow := true, receiver := .command [0x20] } }
    let opened : State := { busy with portA := { busy.portA with csLow := true, receiver := .command [] } }
    (cut.rstnLow = false ∧ (cut.port .a).csLow = true ∧ (cut.port .a).receiver = .command [0x20]) ∧
      opened.rstnLow = false ∧ (opened.port .a).csLow = true ∧ (opened.port .a).receiver = .command [] := by decide +kernel

/-- Chip select high; a frame before its header, at the last byte of its header and at the last byte of the longest payload; and
the receiver states after a command. -/
theorem witness_ReceiverMoves :
    let inside := fun r : Receiver => ({ busy with portA := { busy.portA with csLow := true, receiver := r } } : State)
    (busy.rstnLow = false ∧ (busy.port .a).csLow = false) ∧
      ((inside (.command [])).port .a).receiver = .command [] ∧ ([] : List Byte).length < 4 ∧
      [0x60, 0, (0 : Byte)].length < 4 ∧
      (declaredLength ([0x60, 0, 0, 68] ++ List.replicate 67 0) ≤ 68 ∧
        ([0x60, 0, 0, 68] ++ List.replicate 67 (0 : Byte)).length
          < 4 + declaredLength ([0x60, 0, 0, 68] ++ List.replicate 67 0)) ∧
      ((inside (.turnaround 1 [0, 0, 0, 1])).port .a).receiver.hasExecuted ∧
      ((inside (.response [0, 0, 0, 1] 3)).port .a).receiver.hasExecuted ∧
      ((inside .trailing).port .a).receiver.hasExecuted ∧ ((inside .ignoring).port .a).receiver = .ignoring ∧
      (inside .trailing).rstnLow = false ∧ ((inside .trailing).port .a).csLow = true := by decide +kernel

/-- Port A of the busy part in a window whose command has executed, with a collect marker and a read marker. -/
def settling (r : Receiver) (deferred : Bool) : State :=
  { busy with
    portA :=
      { busy.portA with
        csLow := true, receiver := r, collect := some ⟨6, deferred⟩, readMarker := some [.nodeChange] } }

theorem witness_WindowEndSettles :
    (Lawful (settling .trailing false) ∧ (settling .trailing false).rstnLow = false ∧
      ((settling .trailing false).port .a).receiver = .trailing) ∧
    ∀ deferred, Lawful (settling (.response [0, 0, 0, 1] 3) deferred) ∧
      (settling (.response [0, 0, 0, 1] 3) deferred).rstnLow = false ∧
      ((settling (.response [0, 0, 0, 1] 3) deferred).port .a).receiver.hasExecuted ∧
      ((settling (.response [0, 0, 0, 1] 3) deferred).port .a).receiver ≠ .trailing :=
  ⟨⟨lawful_of_decide (by decide +kernel), by decide +kernel⟩, fun deferred => by
    cases deferred <;> exact ⟨lawful_of_decide (by decide +kernel), by decide +kernel⟩⟩

/-- A READ with tag 32, the first out of range, and a WRITE with no payload. -/
theorem witness_SubmitChecksDecideInOrder :
    ((sent 1000 .a (.submitRead 32 3 0 1)).brings (.submitRead 32 3 0 1) busy ∧
      firstFailure (submitTests busy .a 32 3 ((1 : Word).toNat = 0 ∨ 256 < (1 : Word).toNat) (((1 : Word).toNat + 15) / 16))
        = some .badTag) ∧
    (sent 1000 .a (.submitWrite 9 3 0 [])).brings (.submitWrite 9 3 0 []) busy ∧
      firstFailure (submitTests busy .a 9 3 (([] : List Byte) = []) 0) = some .badLength :=
  ⟨⟨busy_brings .a _ (by decide +kernel) (by decide +kernel), by decide +kernel⟩,
    busy_brings .a _ (by decide +kernel) (by decide +kernel), by decide +kernel⟩

/-- A READ of 256 bytes, the longest, a READ of one byte and a WRITE, whose checks pass; the busy part has a waiting read, and
the part with only node 5 bound has none. -/
theorem witness_SubmitIsAccepted :
    ((31 : Tag).val = (31 : Byte).toNat ∧ (3 : NodeIx).val = (3 : Byte).toNat ∧ busy.isFirstFree 9) ∧
    ((sent 1000 .a (.submitRead 31 3 0 256)).brings (.submitRead 31 3 0 256) busy ∧
      firstFailure (submitTests busy .a 31 3 ((256 : Word).toNat = 0 ∨ 256 < (256 : Word).toNat)
        (((256 : Word).toNat + 15) / 16)) = none) ∧
    ((sent 1000 .a (.submitWrite 31 3 0 [7])).brings (.submitWrite 31 3 0 [7]) busy ∧
      firstFailure (submitTests busy .a 31 3 ([(7 : Byte)] = []) 0) = none) ∧
    start121.isFirstFree 0 ∧ start121.admission = [] ∧
      (sent 0 .a (.submitRead 0 5 0 1)).brings (.submitRead 0 5 0 1) start121 ∧
      firstFailure (submitTests start121 .a 0 5 ((1 : Word).toNat = 0 ∨ 256 < (1 : Word).toNat) (((1 : Word).toNat + 15) / 16))
        = none :=
  ⟨⟨by decide, by decide, by decide +kernel, by decide +kernel⟩,
    ⟨busy_brings .a _ (by decide +kernel) (by decide +kernel), by decide +kernel⟩,
    ⟨busy_brings .a _ (by decide +kernel) (by decide +kernel), by decide +kernel⟩,
    ⟨by decide +kernel, by decide +kernel⟩, by decide +kernel,
    sent_brings (f := sent 0 .a (.submitRead 0 5 0 1)) (by decide +kernel) (by decide +kernel) (by decide +kernel)
      (by decide +kernel) (by decide +kernel), by decide +kernel⟩

/-- Tag 32 names nothing, tag 31 no entry of port A, tag 6 a DONE entry, tag 1 an open one with a live seq, tag 4 one without. -/
theorem witness_CancelAnswersByState :
    Lawful busy ∧
    ((sent 1000 .a (.cancel 32)).brings (.cancel 32) busy ∧ 31 < (32 : Byte).toNat) ∧
    ((sent 1000 .a (.cancel 31)).brings (.cancel 31) busy ∧ (31 : Byte).toNat ≤ 31 ∧ ∀ i e, ¬busy.names .a 31 i e) ∧
    (∀ tag ∈ [(6 : Byte), 1, 4], (sent 1000 .a (.cancel tag)).brings (.cancel tag) busy) ∧
    (∃ e, busy.names .a 6 6 e ∧ e.phase.isDone) ∧ (∃ e, busy.names .a 1 1 e ∧ e.phase.liveSeq = some 2) ∧
      ∃ e, busy.names .a 4 4 e ∧ e.phase = .ready := by
  refine ⟨busy_lawful, ⟨busy_brings .a _ (by decide +kernel) (by decide +kernel), by decide⟩,
    ⟨busy_brings .a _ (by decide +kernel) (by decide +kernel), by decide, ?_⟩, ?_,
    names_of_any (by decide +kernel), names_of_any (by decide +kernel), names_of_any (by decide +kernel)⟩
  · intro i e h
    have all : ∀ i, ((busy.entry i).all fun e => e.tag.val != (31 : Byte).toNat) = true := by decide +kernel
    have := all i
    rw [h.1] at this
    simp [h.2.2] at this
  · intro tag h
    fin_cases h <;> exact busy_brings .a _ (by decide +kernel) (by decide +kernel)

/-- The entries of port A that a QUERY can name stand in each of the six states. -/
theorem witness_QueryReportsTheEntry :
    Lawful busy ∧ (∀ tag : Byte, (sent 1000 .a (.query tag)).brings (.query tag) busy) ∧
    (∃ e, busy.names .a 5 5 e ∧ e.phase = .waiting ∧ busy.admission[0]? = some 5) ∧
    (∃ e, busy.names .a 4 4 e ∧ e.phase = .ready ∧ (busy.bound e.node).map BoundNode.issueQueue = some [4]) ∧
    (∃ e, busy.names .a 3 3 e ∧ e.phase = .issuing 0) ∧ (∃ e, busy.names .a 0 0 e ∧ e.phase = .issued 1 3000 900 500) ∧
    (∃ e, busy.names .a 1 1 e ∧ e.phase = .part 2 4000) ∧
      ∃ e, busy.names .a 7 7 e ∧ e.phase = .done (.nodeError 0x55) none ∧ (busy.port .a).completion[1]? = some 7 := by
  refine ⟨busy_lawful, fun tag => busy_brings .a _ rfl (by simp [HostCommand.payload, maxDeclared]), ?_, ?_, ?_, ?_, ?_, ?_⟩ <;>
    exact names_of_any (by decide +kernel)

theorem witness_CollectDeliversTheHead :
    (Lawful busy ∧ (sent 1000 .a .collect).brings .collect busy ∧ (busy.port .a).completion = [6, 7] ∧
      ∃ e, busy.entry 6 = some e ∧ e.phase = .done .ok (some 5000)) ∧
    Lawful State.reset ∧ (sent 0 .b .collect).brings .collect State.reset ∧ (State.reset.port .b).completion = [] :=
  ⟨⟨busy_lawful, busy_brings .a _ (by decide +kernel) (by decide +kernel), by decide +kernel, entry_of_any (by decide +kernel)⟩,
    lawful_of_decide (by decide +kernel), reset_brings .b _ (by decide +kernel) (by decide +kernel), rfl⟩

/-- A hold expiry exactly now, one ahead and none; the marked entry has its expiry deferred. -/
theorem witness_HoldExpiryDiscards :
    Lawful busy ∧ busy.rstnLow = false ∧
    (∃ e, busy.entry 6 = some e ∧ e.phase = .done .ok (some 5000) ∧ 5000 ≤ max busy.now 5000 ∧ ¬5000 ≤ max busy.now 4999) ∧
    (∃ e, busy.entry 7 = some e ∧ e.phase = .done (.nodeError 0x55) none) ∧
    Lawful (settling .trailing false) ∧ ∃ m ∈ ((settling .trailing false).port .a).collect, m.entry = 6 :=
  ⟨busy_lawful, by decide +kernel, entry_of_any (by decide +kernel), entry_of_any (by decide +kernel),
    lawful_of_decide (by decide +kernel), ⟨6, false⟩, rfl, rfl⟩

theorem witness_PortStatusReports :
    (sent 1000 .a (.portStatus false)).brings (.portStatus ((sent 1000 .a (.portStatus false)).flags.getLsbD 0)) busy ∧
    let f : HostFrame := ⟨1000, .a, 1, .portStatus true, crc8 ((HostCommand.portStatus true).bytes 1)⟩
    f.brings (.portStatus (f.flags.getLsbD 0)) busy :=
  ⟨busy_brings .a _ (by decide +kernel) (by decide +kernel),
    sent_brings (by decide +kernel) (by decide +kernel) (by decide +kernel) (by decide +kernel) (by decide +kernel)⟩

theorem witness_ReadEventsReports : (sent 1000 .a .readEvents).brings .readEvents busy :=
  busy_brings .a _ (by decide +kernel) (by decide +kernel)

/-- Node 16, the first out of range; node 7, ABSENT; and the bound nodes, ONLINE, PROBING with and without a time, SUSPECT and
OFFLINE, with and without an advertisement, an issuing seq and a last good exchange, without back-offs; and one with both
back-offs and an acknowledgement. -/
theorem witness_NodeStatusReports :
    (∀ node : Byte, (sent 1000 .a (.nodeStatus node false)).brings (.nodeStatus node ((0 : Byte).getLsbD 0)) busy) ∧
    15 < (16 : Byte).toNat ∧ (15 : NodeIx).val = (15 : Byte).toNat ∧ busy.bound 15 = none ∧ busy.bound 0 = some node0 ∧
    busy.bound 1 = some node1 ∧ busy.bound 2 = some node2 ∧
    (busy.bound 4).map BoundNode.health = some (.suspect 1000) ∧ (busy.bound 6).map BoundNode.health = some .offline ∧
    (busy.bound 5).map BoundNode.health = some (.probing (some 1000)) ∧
    node0.earliestPoll = none ∧ node0.refuseEnd = none ∧ node0.pendingAck = none ∧ node0.lastGood = (online 0 0).lastGood ∧
    (let full : BoundNode :=
      { node0 with
        earliestPoll := some 1100, refuseEnd := some 1000, lastGood := some 990, pendingAck := some ⟨1, 16, .hold⟩ }
    let owed : State := busy.modBound 0 fun _ => full
    (sent 1000 .a (.nodeStatus 0 false)).brings (.nodeStatus 0 ((0 : Byte).getLsbD 0)) owed ∧ owed.bound 0 = some full) :=
  ⟨fun n => busy_brings .a (.nodeStatus n false) rfl (by simp [HostCommand.payload, maxDeclared]), by decide, by decide, by decide +kernel,
    by decide +kernel, by decide +kernel, by decide +kernel, by decide +kernel, by decide +kernel, by decide +kernel, rfl, rfl, rfl, rfl,
    sent_brings (f := sent 1000 .a (.nodeStatus 0 false)) (by decide +kernel) (by decide +kernel) (by decide +kernel)
      (by decide +kernel) (by decide +kernel), by decide +kernel⟩

theorem witness_LineStatusReports :
    Lawful busy ∧
    (∀ line : Byte, (sent 1000 .a (.lineStatus line false)).brings (.lineStatus line ((0 : Byte).getLsbD 0)) busy) ∧
    3 < (4 : Byte).toNat ∧ (3 : LineIx).val = (3 : Byte).toNat ∧ (busy.line 3).state = .idle ∧
    (busy.line 1).state = .exchanging false request1 :=
  ⟨busy_lawful, fun l => busy_brings .a (.lineStatus l false) rfl (by simp [HostCommand.payload, maxDeclared]), by decide, by decide, by decide +kernel⟩

/-- The shortest and the longest ECHO. -/
theorem witness_EchoReturnsThePayload :
    (sent 1000 .a (.echo [])).brings (.echo []) busy ∧
      (sent 1000 .b (.echo (List.replicate 64 0xA5))).brings (.echo (List.replicate 64 0xA5)) busy :=
  ⟨busy_brings .a _ (by decide +kernel) (by decide +kernel), busy_brings .b _ (by decide +kernel) (by decide +kernel)⟩

theorem witness_PortResetFlushesThePort : Lawful busy ∧ (sent 1000 .a .portReset).brings .portReset busy :=
  ⟨busy_lawful, busy_brings .a _ (by decide +kernel) (by decide +kernel)⟩

theorem witness_DeviceResetRestartsThePart :
    Lawful busy ∧ (sent 1000 .a .deviceReset).port = .a ∧ (sent 1000 .a .deviceReset).brings .deviceReset busy :=
  ⟨busy_lawful, rfl, busy_brings .a _ (by decide +kernel) (by decide +kernel)⟩

/-- NODE_DETACH and the first global parameter on port B. -/
theorem witness_PortBIsNotPermitted :
    (∀ c ∈ [HostCommand.nodeDetach 0, .setParam 0x0001 5], (sent 1000 .b c).receivable busy ∧ (sent 1000 .b c).intact) ∧
    hostFrame (.nodeDetach 1000 .b 0 0 (sent 1000 .b (.nodeDetach 0)).check) = some (sent 1000 .b (.nodeDetach 0)) ∧
    hostFrame (.setParam 1000 .b 0 0x0001 5 (sent 1000 .b (.setParam 0x0001 5)).check)
      = some (sent 1000 .b (.setParam 0x0001 5)) ∧
    (∃ v, ((0x0001 : Word).toNat, v) ∈ storedValues busy .b) ∧ ownNumber (0x0001 : Word).toNat = false := by
  refine ⟨fun c h => ?_, by decide +kernel, by decide +kernel, ⟨30, by decide +kernel⟩, by decide +kernel⟩
  have : (sent 1000 .b c).brings c busy := by
    fin_cases h <;> exact busy_brings .b _ (by decide +kernel) (by decide +kernel)
  exact this.2

/-- An attach that fails (node 0 is in use) and one that passes (node 15 at line 1, drop 3, window 8, FIXED). -/
theorem witness_NodeAttachBindsTheNode :
    ((sent 1000 .a (.nodeAttach 0 1 3 8 1)).brings (.nodeAttach 0 1 3 8 1) busy ∧
      firstFailure (attachTests busy 0 1 3 8 1) = some .nodeInUse) ∧
    (sent 1000 .a (.nodeAttach 15 1 3 8 1)).brings (.nodeAttach 15 1 3 8 1) busy ∧
      firstFailure (attachTests busy 15 1 3 8 1) = none ∧ (15 : NodeIx).val = (15 : Byte).toNat ∧
      (1 : LineIx).val = (1 : Byte).toNat ∧ (3 : DropIx).val = (3 : Byte).toNat :=
  ⟨⟨busy_brings .a _ (by decide +kernel) (by decide +kernel), by decide +kernel⟩,
    busy_brings .a _ (by decide +kernel) (by decide +kernel), by decide +kernel, by decide, by decide, by decide⟩

theorem witness_NodeDetachUnbindsTheNode :
    (∀ node : Byte, (sent 1000 .a (.nodeDetach node)).brings (.nodeDetach node) busy) ∧ 15 < (16 : Byte).toNat ∧
      (15 : NodeIx).val = (15 : Byte).toNat ∧ busy.bound 15 = none ∧ (0 : NodeIx).val = (0 : Byte).toNat ∧
      busy.bound 0 = some node0 :=
  ⟨fun _ => busy_brings .a _ rfl (by simp [HostCommand.payload, maxDeclared]), by decide, by decide, by decide +kernel, by decide, by decide +kernel⟩

theorem witness_NodeReprobeWithdraws :
    (∀ node : Byte, (sent 1000 .a (.nodeReprobe node)).brings (.nodeReprobe node) busy) ∧ 15 < (16 : Byte).toNat ∧
      busy.bound 15 = none ∧ busy.bound 0 = some node0 ∧ (busy.bound 5).map BoundNode.health = some (.probing (some 1000)) ∧
      (busy.bound 6).map BoundNode.health = some .offline ∧ busy.lineEnabled 3 = true :=
  ⟨fun _ => busy_brings .a _ rfl (by simp [HostCommand.payload, maxDeclared]), by decide, by decide +kernel⟩

/-- A node parameter above its range and one at its bound, and a per-port parameter on port B. -/
theorem witness_SetParamDecidesInOrder :
    Lawful busy ∧
    ((sent 1000 .a (.setParam 0x0100 9)).brings (.setParam 0x0100 9) busy ∧
      firstFailure (setParamTests busy .a (0x0100 : Word).toNat (9 : Word).toNat) = some .badParam) ∧
    ((sent 1000 .a (.setParam 0x0100 8)).brings (.setParam 0x0100 8) busy ∧
      firstFailure (setParamTests busy .a (0x0100 : Word).toNat (8 : Word).toNat) = none) ∧
    (sent 1000 .b (.setParam 0x0020 0)).brings (.setParam 0x0020 0) busy ∧
      firstFailure (setParamTests busy .b (0x0020 : Word).toNat (0 : Word).toNat) = none :=
  ⟨busy_lawful, ⟨busy_brings .a _ (by decide +kernel) (by decide +kernel), by decide +kernel⟩,
    ⟨busy_brings .a _ (by decide +kernel) (by decide +kernel), by decide +kernel⟩,
    busy_brings .b _ (by decide +kernel) (by decide +kernel), by decide +kernel⟩

/-- The commitment limit, the enables of an IDLE and of an EXCHANGING line, and another parameter. -/
theorem witness_SetParamActsAtItsOwner :
    Lawful busy ∧
    ∀ x ∈ [((0x0001 : Word), (1023 : Word)), (0x0013, 0), (0x0010, 0), (0x0010, 1), (0x0002, 20)],
      (sent 1000 .a (.setParam x.1 x.2)).brings (.setParam x.1 x.2) busy ∧
        firstFailure (setParamTests busy .a x.1.toNat x.2.toNat) = none :=
  ⟨busy_lawful, fun x h => by
    fin_cases h <;> exact ⟨busy_brings .a _ (by decide +kernel) (by decide +kernel), by decide +kernel⟩⟩

/-- A line that is DISABLED, for the enabling clause. -/
theorem witness_SetParamActsAtItsOwner_enable :
    let s : State :=
      { State.reset with
        params := { GlobalParams.powerOn with lineEnable := (Vector.replicate 4 true).set 0 false }
        lines := (Vector.replicate 4 LineRec.powerOn).set 0 { LineRec.powerOn with state := .disabled } }
    Lawful s ∧ (sent 0 .a (.setParam 0x0010 1)).brings (.setParam 0x0010 1) s ∧
      firstFailure (setParamTests s .a (0x0010 : Word).toNat (1 : Word).toNat) = none ∧ (s.line 0).state = .disabled :=
  ⟨lawful_of_decide (by decide +kernel),
    sent_brings (f := sent 0 .a (.setParam 0x0010 1)) rfl rfl (by decide +kernel) (by decide +kernel)
      (by decide +kernel), by decide +kernel, by decide +kernel⟩

/-- The last number of the store, 01F8h, and the first number beyond it. -/
theorem witness_GetParamReportsTheValue :
    ((sent 1000 .b (.getParam 0x01F8)).brings (.getParam 0x01F8) busy ∧
      ((0x01F8 : Word).toNat, 3) ∈ storedValues busy .b) ∧
    (sent 1000 .b (.getParam 0x01F9)).brings (.getParam 0x01F9) busy ∧
      ∀ v, ((0x01F9 : Word).toNat, v) ∉ storedValues busy .b := by
  refine ⟨⟨busy_brings .b _ (by decide +kernel) (by decide +kernel), by decide +kernel⟩,
    busy_brings .b _ (by decide +kernel) (by decide +kernel), fun v h => ?_⟩
  have : ((storedValues busy .b).map Prod.fst).all fun k => k != (0x01F9 : Word).toNat := by decide +kernel
  have := List.all_eq_true.mp this _ (List.mem_map_of_mem h)
  simp at this

/-- The busy part with line 3's last granted drop at `d`. -/
def searching (d : DropIx) : State := busy.modLine 3 fun r => { r with lastGranted := d }

theorem searching_lawful (d : DropIx) : Lawful (searching d) := by
  fin_cases d <;> exact lawful_of_decide (by decide +kernel)

/-- Line 0, which is not IDLE, and a part right after reset, where no node presents a candidate. -/
theorem witness_GrantFollowsTheSearch_none :
    (Lawful busy ∧ busy.rstnLow = false ∧ (busy.line 0).state ≠ .idle) ∧
      Lawful State.reset ∧ State.reset.rstnLow = false ∧
        ∀ n b, State.reset.bound n = some b → b.line = 0 → ¬presentsAny (State.reset.advance 0) n b := by
  refine ⟨⟨busy_lawful, by decide +kernel⟩, lawful_of_decide (by decide +kernel), rfl, fun n b h => ?_⟩
  have := (by decide +kernel : ∀ n, State.reset.bound n = none) n
  simp [this] at h

/-- A search that begins at the node's own drop reaches it. -/
theorem reached_first {s : State} {l : LineIx} {n : NodeIx} {b : BoundNode} {rest : List DropIx} (hb : s.bound n = some b)
    (hl : b.line = l) (hi : (s.line l).state = .idle) (ho : searchOrder (s.line l).lastGranted = b.drop :: rest) :
    reachedBySearch s l n b :=
  ⟨hb, hl, hi, [], rest, ho, by simp⟩

/-- A search from drop 2 reaches node 5, due for its RESET. -/
theorem witness_GrantFollowsTheSearch_reset :
    let b : BoundNode := { online 3 2 with health := .probing (some 1000) }
    Lawful (searching 1) ∧ reachedBySearch ((searching 1).advance 1000) 3 5 b ∧ presentsReset ((searching 1).advance 1000) b :=
  ⟨searching_lawful 1,
    reached_first (rest := [3, 0, 1]) (by decide +kernel) rfl (by decide +kernel) (by decide +kernel),
    1000, rfl, by decide +kernel⟩

/-- A search from drop 1 reaches node 4, its suspect check due. -/
theorem witness_GrantFollowsTheSearch_poll :
    let b : BoundNode := { online 3 1 with health := .suspect 1000 }
    Lawful (searching 0) ∧ reachedBySearch ((searching 0).advance 1000) 3 4 b ∧
      presentsPoll ((searching 0).advance 1000) 4 b :=
  ⟨searching_lawful 0,
    reached_first (rest := [2, 3, 0]) (by decide +kernel) rfl (by decide +kernel) (by decide +kernel),
    .inr ⟨1000, rfl, by decide +kernel⟩⟩

/-- A search from drop 0 reaches node 3, with a READY entry and no reason to be polled. -/
theorem witness_GrantFollowsTheSearch_request :
    let b : BoundNode := { online 3 0 with issueQueue := [4] }
    Lawful (searching 3) ∧ reachedBySearch ((searching 3).advance 1000) 3 3 b ∧
      presentsRequest ((searching 3).advance 1000) 3 b ∧ ¬presentsPoll ((searching 3).advance 1000) 3 b := by
  refine ⟨searching_lawful 3,
    reached_first (rest := [1, 2, 3]) (by decide +kernel) rfl (by decide +kernel) (by decide +kernel),
    ⟨rfl, by simp, rfl, ?_, ⟨8, 0x17⟩, rfl, by decide +kernel, by decide +kernel⟩, ?_⟩
  · rintro ⟨end_, h, _⟩
    simp [online] at h
  · have idle : ∀ i, (((searching 3).advance 1000).entry i).all (fun e => decide (e.node = 3 → e.phase.liveSeq = none)) = true := by
      decide +kernel
    have none_live : ∀ i, ∀ e ∈ ((searching 3).advance 1000).entry i, e.node = 3 → e.phase.liveSeq = none := fun i e h => by
      have := idle i
      rw [show ((searching 3).advance 1000).entry i = some e from h] at this
      simpa [imp_iff_not_or] using this
    rintro (⟨_, _, h | ⟨i, e, he, hn, hp⟩ | h⟩ | ⟨check, h, _⟩)
    · simp [online] at h
    · have := none_live i e he hn
      rcases hp with ⟨_, _, _, _, hp, _⟩ | ⟨_, _, hp⟩ <;> simp [hp, Phase.liveSeq] at this
    · simp [online] at h
    · simp [online] at h

/-- A line that is IDLE; an answer too late by one microsecond, and one that does not begin with the bytes received. -/
theorem witness_FrameSentOpensTheWindow :
    (State.reset.rstnLow = false ∧ isAnswer 0 0 (.accept 0 0 0 0) ∧ ∀ x soFar since, ¬hears State.reset 0 x soFar since) ∧
    (isAnswer 1950 0 (.pending 1950 0 0 []) ∧ hears busy 0 poll0 [] 990 ∧ wellFormed (.pending 1950 0 0 []) ∧
      frameOf (.pending 1950 0 0 []) = some (answerBytes 0x85 0x00 []) ∧
      990 + (min (answerBytes 0x85 0x00 []).length 40 - ([] : List LineByte).length) * (poll0.window + 40) ≤ max busy.now 1950) ∧
    isAnswer 1000 0 (.fault 1000 0 0 1 0) ∧ hears begun 0 begun0 (clean [0x85, 0x00, 0x01]) 995 ∧
      frameOf (.fault 1000 0 0 1 0) = some (answerBytes 0x86 0x00 [0x01, 0x00]) ∧
      ¬clean [0x85, 0x00, 0x01] <+: answerBytes 0x86 0x00 [0x01, 0x00] := by
  refine ⟨⟨rfl, ⟨rfl, rfl⟩, ?_⟩, ⟨⟨rfl, rfl⟩, busy_hears, rfl, rfl, by decide +kernel⟩, ⟨rfl, rfl⟩, begun_hears, rfl,
    by decide +kernel⟩
  rintro x soFar since ⟨⟨pend, h⟩, _⟩
  rw [(by decide +kernel : (State.reset.line 0).state = .idle)] at h
  exact absurd h (by simp)

/-- The window of line 0 closes at 1190: reached then, not at 1189; the quiet after the bytes received at 995 lasts until 1195. -/
theorem witness_FailedAttemptsEndTheExchange_window :
    (Lawful busy ∧ busy.rstnLow = false ∧ (busy.line 0).state = .exchanging false poll0 ∧ hears busy 0 poll0 [] 990 ∧
      990 + poll0.window ≤ max busy.now 1190 ∧ ¬990 + poll0.window ≤ max busy.now 1189) ∧
    Lawful begun ∧ begun.rstnLow = false ∧ (begun.line 0).state = .exchanging false begun0 ∧
      hears begun 0 begun0 (clean [0x85, 0x00, 0x01]) 995 ∧
      995 + begun0.window ≤ max begun.now 1195 ∧ ¬995 + begun0.window ≤ max begun.now 1194 :=
  ⟨⟨busy_lawful, by decide +kernel, by decide +kernel, busy_hears, by decide +kernel⟩,
    begun_lawful, by decide +kernel, by decide +kernel, begun_hears, by decide +kernel⟩

/-- Bytes that do not end an answer: the first, the third of a header, and the last but one of the 40 bytes of one that
declares 37. -/
theorem witness_FailedAttemptsEndTheExchange_unfinished :
    ([] ++ [(⟨0x85, true⟩ : LineByte)]).length < 3 ∧
    (∃ type drop len tail, clean [0x85, 0x00] ++ [⟨0x01, true⟩] = type :: drop :: len :: tail ∧
      tail.length + 3 < min (len.value.toNat + 4) 40) ∧
    (∃ type drop len tail, clean ([0x84, 0x00, 37] ++ List.replicate 35 0) ++ [⟨0, true⟩] = type :: drop :: len :: tail ∧
      tail.length + 3 < min (len.value.toNat + 4) 40) ∧
    max busy.now 1000 < 990 + 1 * (poll0.window + 40) :=
  ⟨by decide, ⟨_, _, _, _, rfl, by decide⟩, ⟨_, _, _, _, rfl, by decide +kernel⟩, by decide +kernel⟩

/-- A byte that ends an answer: one that declares a body of 37; one with the longest body, whose check byte is wrong; one with a
stop bit missing; and one with a good check byte and the wrong drop, a RESET's type, and a SEGMENT's body 3 bytes long. -/
theorem witness_FailedAttemptsEndTheExchange_bytes :
    (36 < (37 : Byte).toNat ∧ (List.replicate 37 (⟨0, true⟩ : LineByte)).length = 37) ∧
    ((36 : Byte).toNat = (clean (List.replicate 36 0)).length ∧ (clean (List.replicate 36 0)).length ≤ 36 ∧
      (0x00 : Byte) ≠ crc8 (0x85 :: 0x00 :: 36 :: (clean (List.replicate 36 0)).map (·.value))) ∧
    (([⟨0x85, true⟩, ⟨0x00, true⟩, ⟨0x00, false⟩] ++ [⟨0, true⟩] : List LineByte).all (·.stop)) = false ∧
    (let soFar := clean [0x81, 0x01, 0x03, 0, 0, 0]
    let byte : LineByte := ⟨crc8 [0x81, 0x01, 0x03, 0, 0, 0], true⟩
    soFar ++ [byte] = ⟨0x81, true⟩ :: ⟨0x01, true⟩ :: ⟨0x03, true⟩ :: clean [0, 0, 0] ++ [byte] ∧
      (soFar ++ [byte]).all (·.stop) ∧ (0x01 : Byte).toNat ≠ poll0.drop.val ∧
      ((0x81 : Byte) ≠ 0x84 ∧ (0x81 : Byte) ≠ 0x85 ∧ (0x81 : Byte) ≠ 0x86) ∧ (clean [0, 0, 0]).length < 4) := by
  decide +kernel

/-- A SEGMENT of 33 data bytes, an ACCEPT under another seq, a PENDING whose beginning has been received, in time, and the last
byte of one. -/
theorem witness_FailedAttemptsEndTheExchange_rows :
    (isAnswer 1000 0 (.segment 1000 0 0 1 0 0 (List.replicate 33 0)) ∧
      wellFormed (.segment 1000 0 0 1 0 0 (List.replicate 33 0)) ∧
      (frameOf (.segment 1000 0 0 1 0 0 (List.replicate 33 0))).any (40 < ·.length)) ∧
    ((busy.line 1).state = .exchanging false request1 ∧ hears busy 1 request1 [] 990 ∧
      isAnswer 1000 1 (.accept 1000 1 0 1) ∧ (frameOf (.accept 1000 1 0 1)).any (·.length ≤ 40) ∧
      ¬validFor request1 (.accept 1000 1 0 1)) ∧
    isAnswer 1474 0 (.pending 1474 0 0 [4]) ∧ frameOf (.pending 1474 0 0 [4]) = some (answerBytes 0x85 0x00 [0x04]) ∧
      clean [0x85, 0x00, 0x01] <+: answerBytes 0x85 0x00 [0x04] ∧
      clean [0x85, 0x00, 0x01, 0x04] ++ [⟨crc8 [0x85, 0x00, 0x01, 0x04], true⟩] = answerBytes 0x85 0x00 [0x04] := by
  refine ⟨⟨⟨rfl, rfl⟩, by decide +kernel, by decide +kernel⟩,
    ⟨by decide +kernel, ⟨⟨false, by decide +kernel⟩, .inl ⟨rfl, rfl⟩⟩, ⟨rfl, rfl⟩, by decide +kernel, ?_⟩, ⟨rfl, rfl⟩, rfl,
    by decide +kernel, by decide +kernel⟩
  rintro ⟨_, q, hk, hq⟩
  simp only [exchange, FrameKind.request.injEq] at hk
  subst hk
  exact absurd hq (by decide)

/-- The POLL of line 0 has been abandoned, by a DEVICE_RESET when `uncounted`. -/
def abandonedPoll (uncounted : Bool) : State :=
  running 0 { poll0 with abandoned := true, uncounted := uncounted } busy

theorem witness_AbandonedExchangeActsOnNothing (uncounted : Bool) :
    let x := { poll0 with abandoned := true, uncounted := uncounted }
    Lawful (abandonedPoll uncounted) ∧ (abandonedPoll uncounted).rstnLow = false ∧ isAnswer 1000 0 (.pending 1000 0 0 []) ∧
      frameOf (.pending 1000 0 0 []) = some (answerBytes 0x85 0x00 []) ∧
      (abandonedPoll uncounted).takesWhole 1000 0 x (answerBytes 0x85 0x00 []) ∧ validFor x (.pending 1000 0 0 []) := by
  cases uncounted <;>
    exact ⟨lawful_of_decide (by decide +kernel), by decide +kernel, ⟨rfl, rfl⟩, rfl,
      ⟨[], 990, ⟨⟨false, by decide +kernel⟩, .inl ⟨rfl, rfl⟩⟩, List.nil_prefix, by decide +kernel, by decide +kernel⟩, by decide, rfl,
      by decide, by decide, by simp⟩

theorem witness_IdentStartsTheNode :
    Lawful busy ∧ serves busy 1000 2 reset2 node2 (answerBytes 0x81 0x01 [0x17, 8]) ∧ reset2.kind = .reset ∧
      (1 : Byte).toNat = reset2.drop.val :=
  ⟨busy_lawful, busy_serves_reset, rfl, rfl⟩

/-- The operands of the answers to the REQUEST of line 1. -/
theorem request_operands :
    request1.kind = .request 0 ∧ (0 : Byte).toNat = request1.drop.val ∧ (0 : Byte).toNat = (0 : Seq).val := ⟨rfl, rfl, rfl⟩

/-- The REQUEST of line 1 in the part whose entry 3 has gone: no entry is ISSUING at node 1. -/
theorem cancelled_none_issuing :
    ∀ i e, cancelled.entry i = some e → e.node = request1.node → e.phase ≠ .issuing 0 := by
  intro i e h hn hp
  have none_issuing : ∀ i, ((cancelled.entry i).all fun e => decide (e.phase ≠ .issuing 0)) = true := by decide +kernel
  have := none_issuing i
  rw [h] at this
  simp [hp] at this

theorem cancelled_serves {type drop : Byte} {body : List Byte} :
    serves cancelled 1000 1 request1 node1 (answerBytes type drop body) :=
  serves_intro (by decide +kernel) (by decide +kernel) rfl (by decide +kernel) rfl (by decide +kernel)

theorem witness_AcceptIssuesTheEntry :
    (Lawful busy ∧ serves busy 1000 1 request1 node1 (answerBytes 0x82 0x00 [0x00]) ∧
      ∃ e, busy.entry 3 = some e ∧ e.node = request1.node ∧ e.phase = .issuing 0) ∧
    (Lawful cancelled ∧ serves cancelled 1000 1 request1 node1 (answerBytes 0x82 0x00 [0x00]) ∧
      ∀ i e, cancelled.entry i = some e → e.node = request1.node → e.phase ≠ .issuing 0) ∧
    Lawful reprobed ∧ serves reprobed 1000 1 request1 { node1 with health := .probing (some 1000) } (answerBytes 0x82 0x00 [0x00]) ∧
      ∃ e, reprobed.entry 3 = some e ∧ e.node = request1.node ∧ e.phase = .issuing 0 :=
  ⟨⟨busy_lawful, busy_serves_request, entry_of_any (by decide +kernel)⟩,
    ⟨cancelled_lawful, cancelled_serves, cancelled_none_issuing⟩,
    reprobed_lawful, serves_intro (by decide +kernel) (by decide +kernel) rfl (by decide +kernel) rfl (by decide +kernel),
    entry_of_any (by decide +kernel)⟩

theorem witness_RefuseReturnsOrEnds (reason : Byte) :
    (Lawful busy ∧ serves busy 1000 1 request1 node1 (answerBytes 0x83 0x00 [0x00, reason]) ∧
      ∃ e, busy.entry 3 = some e ∧ e.node = request1.node ∧ e.phase = .issuing 0) ∧
    (Lawful cancelled ∧ serves cancelled 1000 1 request1 node1 (answerBytes 0x83 0x00 [0x00, reason]) ∧
      ∀ i e, cancelled.entry i = some e → e.node = request1.node → e.phase ≠ .issuing 0) :=
  ⟨⟨busy_lawful, busy_serves_request, entry_of_any (by decide +kernel)⟩,
    ⟨cancelled_lawful, cancelled_serves, cancelled_none_issuing⟩⟩

/-- A segment of 32 bytes for the ISSUED READ of 20 at offset 0, and one for the PARTIAL READ at offset 16: the free pool has what
they need. -/
theorem witness_SegmentIsTaken :
    Lawful busy ∧
    (∀ q offset, serves busy 1000 0 poll0 node0 (answerBytes 0x84 0x00 ([q, 1] ++ wordBytes offset ++ List.replicate 32 0))) ∧
    poll0.kind = .poll ∧ (0 : Byte).toNat = poll0.drop.val ∧
    (List.replicate 32 (0 : Byte)).length ≤ 32 ∧
    (∃ e, busy.entry 0 = some e ∧ e.node = 0 ∧ e.phase.liveSeq = some 1 ∧ e.kind = .read ∧ (0 : Word).toNat = e.received ∧
      (e.received + min 32 (e.length - e.received) + 15) / 16 - (e.received + 15) / 16 ≤ busy.freeBlocks.length) ∧
    ∃ e, busy.entry 1 = some e ∧ e.node = 0 ∧ e.phase.liveSeq = some 2 ∧ e.kind = .read ∧ (16 : Word).toNat = e.received ∧
      (e.received + min 32 (e.length - e.received) + 15) / 16 - (e.received + 15) / 16 ≤ busy.freeBlocks.length :=
  ⟨busy_lawful, fun _ _ => busy_serves_poll, rfl, rfl, by decide, entry_of_any (by decide +kernel), entry_of_any (by decide +kernel)⟩

/-- In the full part a segment at the resume offset finds no block; in the busy part one at offset 15 is not at it. -/
theorem witness_SegmentIsHeldOrDropped :
    (Lawful full ∧ serves full 1000 0 poll0 (online 0 0) (answerBytes 0x84 0x00 ([1, 0] ++ wordBytes 224 ++ List.replicate 32 0)) ∧
      ∃ e, full.entry 5 = some e ∧ e.node = 0 ∧ e.phase.liveSeq = some 1 ∧ e.kind = .read ∧ (224 : Word).toNat = e.received ∧
        full.freeBlocks.length < (e.received + min 32 (e.length - e.received) + 15) / 16 - (e.received + 15) / 16) ∧
    Lawful busy ∧ serves busy 1000 0 poll0 node0 (answerBytes 0x84 0x00 ([2, 0] ++ wordBytes 15 ++ [7])) ∧
      ∃ e, busy.entry 1 = some e ∧ e.node = 0 ∧ e.phase.liveSeq = some 2 ∧ e.kind = .read ∧ (15 : Word).toNat ≠ e.received :=
  ⟨⟨full_lawful, serves_intro (by decide +kernel) (by decide +kernel) rfl (by decide +kernel) rfl (by decide +kernel),
      entry_of_any (by decide +kernel)⟩,
    busy_lawful, busy_serves_poll, entry_of_any (by decide +kernel)⟩

theorem witness_SegmentCompletesAWrite :
    Lawful busy ∧ (∀ last, serves busy 1000 0 poll0 node0 (answerBytes 0x84 0x00 ([3, last] ++ wordBytes 0 ++ [7]))) ∧
      ∃ e, busy.entry 2 = some e ∧ e.node = 0 ∧ e.phase = .issued 3 3000 900 500 ∧ e.kind = .write :=
  ⟨busy_lawful, fun _ => busy_serves_poll, entry_of_any (by decide +kernel)⟩

theorem witness_FaultEndsTheEntry :
    Lawful busy ∧ (∀ q code, serves busy 1000 0 poll0 node0 (answerBytes 0x86 0x00 [q, code])) ∧
      (∃ e, busy.entry 0 = some e ∧ e.node = 0 ∧ e.phase.liveSeq = some 1) ∧
      (∃ e, busy.entry 1 = some e ∧ e.node = 0 ∧ e.phase.liveSeq = some 2) ∧
      ∃ e, busy.entry 2 = some e ∧ e.node = 0 ∧ e.phase.liveSeq = some 3 :=
  ⟨busy_lawful, fun _ _ => busy_serves_poll, entry_of_any (by decide +kernel), entry_of_any (by decide +kernel),
    entry_of_any (by decide +kernel)⟩

/-- Seq 4 is abandoned at node 0, seq 15 is nothing there. -/
theorem witness_DeadAnswersAreDiscarded :
    Lawful busy ∧ (∀ q, serves busy 1000 0 poll0 node0 (answerBytes 0x84 0x00 ([q, 0] ++ wordBytes 0 ++ [7])) ∧
      serves busy 1000 0 poll0 node0 (answerBytes 0x86 0x00 [q, 0])) ∧ (4 : Byte).toNat = (4 : Seq).val ∧ (15 : Byte).toNat = (15 : Seq).val ∧
      4 ∉ busy.liveSeqs 0 ∧ 4 ∈ node0.abandoned ∧ 15 ∉ busy.liveSeqs 0 ∧ 15 ∉ node0.abandoned :=
  ⟨busy_lawful, fun _ => ⟨busy_serves_poll, busy_serves_poll⟩, by decide +kernel⟩

/-- The empty list, one with a live, an abandoned and a foreign seq, and one whose header was received before. -/
theorem witness_PendingIsReconciled :
    (Lawful busy ∧
      (∀ listed : List Seq, serves busy 1000 0 poll0 node0 (answerBytes 0x85 0x00 (listed.map fun q => byteOf q.val))) ∧
      ([] : List Seq).Nodup ∧ ([1, 4, 15] : List Seq).Nodup) ∧
    Lawful begun ∧ serves begun 1474 0 begun0 node0 (answerBytes 0x85 0x00 (([4] : List Seq).map fun q => byteOf q.val)) :=
  ⟨⟨busy_lawful, fun _ => busy_serves_poll, by decide, by decide⟩, begun_lawful, begun_serves⟩

/-- A READY entry has no deadline; entry 0 has one at 3000, entry 1 one at 4000. -/
theorem witness_DeadlineExpiryAbandonsTheSeq :
    Lawful busy ∧ busy.rstnLow = false ∧ (∃ e, busy.entry 4 = some e ∧ e.phase.liveSeq = none) ∧
      (∃ e, busy.entry 0 = some e ∧ e.phase = .issued 1 3000 900 500) ∧ (∃ e, busy.entry 1 = some e ∧ e.phase = .part 2 4000) ∧
      3000 ≤ max busy.now 3000 ∧ ¬3000 ≤ max busy.now 2999 :=
  ⟨busy_lawful, by decide +kernel, entry_of_any (by decide +kernel), entry_of_any (by decide +kernel),
    entry_of_any (by decide +kernel), by decide +kernel⟩

/-- A probe time, a first-poll time and a suspect check time, each reached exactly. -/
theorem witness_TimesGateTheCandidates :
    busy.rstnLow = false ∧
    (∃ b, busy.bound 5 = some b ∧ b.health = .probing (some 1000) ∧ 1000 ≤ 1000) ∧
    (∃ b, busy.bound 4 = some b ∧ b.health = .suspect 1000 ∧ 1000 ≤ 1000) ∧
    (∃ e, busy.entry 0 = some e ∧ e.phase = .issued 1 3000 900 500 ∧ 900 ≤ 900 ∧ e.node = 0) ∧
      busy.bound 0 = some node0 ∧ node0.health = .online ∧ node0.earliestPoll = none :=
  ⟨by decide +kernel, ⟨{ online 3 2 with health := .probing (some 1000) }, by decide +kernel⟩,
    ⟨{ online 3 1 with health := .suspect 1000 }, by decide +kernel⟩, entry_of_any (by decide +kernel), by decide +kernel⟩

theorem witness_MoveToDoneSettlesTheEntry :
    QueueLaw busy ∧ (∃ e, busy.entry 6 = some e ∧ e.phase.isDone) ∧ (∃ e, busy.entry 5 = some e ∧ e.phase.isDone = false) ∧
      ∃ e, busy.entry 1 = some e ∧ e.phase.isDone = false :=
  ⟨busy_lawful.2.1, entry_of_any (by decide +kernel), entry_of_any (by decide +kernel), entry_of_any (by decide +kernel)⟩

theorem witness_ReturnToReadyKeepsTheOrder : ([1, 0] : List EntryIx).Nodup ∧ busy.bound 0 = some node0 := by decide +kernel

/-- The limit of the busy part raised to 38, which its waiting read then fits exactly, and kept at 30. -/
theorem witness_AdmissionTestsItsHeads :
    let raised : State := { busy with params := { busy.params with limit := 38 } }
    (TableLaw raised ∧ QueueLaw raised ∧ raised.committedTotal ≤ raised.params.limit ∧ busy.params.limit < raised.params.limit) ∧
      TableLaw busy ∧ QueueLaw busy ∧ busy.committedTotal ≤ busy.params.limit :=
  ⟨⟨busy_lawful.1, busy_lawful.2.1, by decide +kernel, by decide +kernel⟩, busy_lawful.1, busy_lawful.2.1,
    busy_lawful.2.2.1.1⟩

/-- The laws on queues, records, nodes and seqs, of a lawful state. -/
theorem lawful_four {s : State} (h : Lawful s) : QueueLaw s ∧ TableLaw s ∧ NodeLaw s ∧ SeqLaw s :=
  ⟨h.2.1, h.1, h.2.2.2.2.1, h.2.2.2.2.2.1⟩

theorem witness_OfflineEntryEndsTheEntries :
    (QueueLaw busy ∧ TableLaw busy ∧ NodeLaw busy ∧ SeqLaw busy) ∧ busy.bound 0 = some node0 ∧ node0.health ≠ .offline :=
  ⟨lawful_four busy_lawful, by decide +kernel, by decide⟩

/-- Line 0 of the busy part with its enable cleared while its exchange runs. -/
theorem witness_ReleasedLineIsIdleOrDisabled :
    let pending : State :=
      { busy.modLine 0 fun r => { r with state := .exchanging true poll0 } with
        params := { busy.params with lineEnable := busy.params.lineEnable.set 0 false } }
    ((QueueLaw busy ∧ TableLaw busy ∧ NodeLaw busy ∧ SeqLaw busy) ∧ (busy.line 0).state = .exchanging false poll0) ∧
      (QueueLaw pending ∧ TableLaw pending ∧ NodeLaw pending ∧ SeqLaw pending) ∧
      (pending.line 0).state = .exchanging true poll0 ∧ (busy.bound 6).map BoundNode.health = some .offline :=
  ⟨⟨lawful_four busy_lawful, by decide +kernel⟩, lawful_four (lawful_of_decide (by decide +kernel)), by decide +kernel,
    by decide +kernel⟩

theorem witness_LatencyFollowsTheSamples : NodeLaw busy ∧ ParamLaw busy ∧ busy.bound 0 = some node0 :=
  ⟨busy_lawful.2.2.2.2.1, busy_lawful.2.2.2.2.2.2.2.2, by decide +kernel⟩


end Sys2Proof.Tests
end

section
/-! PROOFS. The attention outputs: when they are low, and that RSTN takes them high and leaves them high (R140, R156,
R189). -/

namespace Sys2Proof.Machine

/-! ## RSTN -/

theorem exec_rstnLow (t : Time) (s : State) : exec (.rstnLow t) s = .next (holdReset (s.advance t)) := rfl

theorem exec_rstnRise (t : Time) (s : State) : exec (.rstnRise t) s = .next (releaseReset (s.advance t)) := rfl

@[simp] theorem holdReset_rstnLow (s : State) : (holdReset s).rstnLow = true := rfl

@[simp] theorem holdReset_port (s : State) (p : Port) : (holdReset s).port p = heldPort (s.port p).csLow := by
  cases p <;> rfl

@[simp] theorem heldPort_completion (csLow : Bool) : (heldPort csLow).completion = [] := rfl

@[simp] theorem heldPort_events (csLow : Bool) : (heldPort csLow).events = [] := rfl

theorem releaseReset_port {s : State} (h : s.rstnLow = true) (p : Port) :
    (releaseReset s).port p = (s.port p).released := by
  rw [releaseReset, if_pos h]
  cases p <;> rfl

@[simp] theorem PortRec.released_completion (r : PortRec) : r.released.completion = r.completion := rfl

@[simp] theorem PortRec.released_events (r : PortRec) : r.released.events = r.events := rfl

/-! ## The attention output -/

theorem attention_iff (s : State) (p : Port) :
    attention s p = true ↔
      s.rstnLow = false ∧
        (((s.port p).completion ≠ [] ∧ (s.port p).params.queueAttention = true) ∨
          ∃ ev ∈ (s.port p).events, ev ∈ (s.port p).params.enables) := by
  simp [attention]

/-- The output is active low. -/
theorem atnHigh_eq_false_iff_attention (s : State) (p : Port) : atnHigh s p = false ↔ attention s p = true := by
  simp [atnHigh]

theorem atnHigh_of_rstnLow {s : State} (h : s.rstnLow = true) (p : Port) : atnHigh s p = true := by
  simp [atnHigh, attention, h]

/-- With nothing to collect and no event raised a port has no cause for attention, whatever its enables. -/
theorem atnHigh_of_no_cause {s : State} {p : Port} (hq : (s.port p).completion = []) (he : (s.port p).events = []) :
    atnHigh s p = true := by
  simp [atnHigh, attention, hq, he]

/-- The ports come out of reset with their queues and event sets empty, so the release raises no attention. -/
theorem atnHigh_release_of_hold (s : State) (t : Time) (p : Port) :
    atnHigh (releaseReset ((holdReset s).advance t)) p = true := by
  have hport : (releaseReset ((holdReset s).advance t)).port p = (heldPort (s.port p).csLow).released := by
    rw [releaseReset_port (by simp), State.advance_port, holdReset_port]
  exact atnHigh_of_no_cause (by simp [hport]) (by simp [hport])

/-- Settles O24: the levels follow the law on attention, and RSTN leaves the ports without a cause. -/
theorem attentionFollowsTheState : Obligations.AttentionFollowsTheState := fun p s =>
  ⟨(atnHigh_eq_false_iff_attention s p).trans (attention_iff s p), fun t₁ t₂ =>
    ⟨_, _, exec_rstnLow t₁ s, exec_rstnRise t₂ _, atnHigh_of_rstnLow (holdReset_rstnLow _) p,
      atnHigh_release_of_hold (s.advance t₁) t₂ p⟩⟩

end Sys2Proof.Machine
end

section
/-! PROOFS. What the rise of chip select does to a command frame that is not complete, and to a window that RSTN cut short
(R156, R158, R160). -/

namespace Sys2Proof.Machine

/-! ## Chip select rising -/

theorem exec_chipSelectRise (t : Time) (p : Port) (s : State) :
    exec (.chipSelectRise t p) s = .next (selectRises p (s.advance t)) := rfl

/-- Two changes of one port are one change of it. -/
theorem State.modPort_modPort (s : State) (p : Port) (f g : PortRec → PortRec) :
    (s.modPort p f).modPort p g = s.modPort p fun r => g (f r) := by
  cases p <;> rfl

theorem selectRises_of_csHigh {s : State} {p : Port} (hc : (s.port p).csLow = false) : selectRises p s = s := if_pos hc

/-- With RSTN high an open window ends: the receiver is IDLE, and the rest depends on the receiver state it ends in (R158). -/
theorem selectRises_of_csLow {s : State} {p : Port} (hr : s.rstnLow = false) (hc : (s.port p).csLow = true) :
    selectRises p s =
      windowCloses p (s.modPort p fun r => { r with csLow := false, receiver := .idle }) (s.port p).receiver := by
  simp only [selectRises, hr, hc, State.modPort_modPort, Bool.true_eq_false, Bool.false_eq_true, if_false]

/-! ## Cut frames (R160) -/

/-- A cut frame changes its port's record and nothing else. -/
theorem cutFrame_eq (p : Port) (s : State) :
    cutFrame p s = s.modPort p fun r =>
      PortRec.raise .hostFrameError { r with counters := { r.counters with cut := bump r.counters.cut } } := by
  rw [cutFrame, raiseOn, State.modPort_modPort]

theorem selectRises_of_frameBegun {s : State} {p : Port} {b : Byte} {rest : List Byte} (hr : s.rstnLow = false)
    (hc : (s.port p).csLow = true) (hf : (s.port p).receiver = .command (b :: rest)) :
    selectRises p s = s.modPort p fun r =>
      PortRec.raise .hostFrameError
        { r with csLow := false, receiver := .idle, counters := { r.counters with cut := bump r.counters.cut } } := by
  rw [selectRises_of_csLow hr hc, hf, windowCloses, cutFrame_eq, State.modPort_modPort]

theorem selectRises_of_emptyWindow {s : State} {p : Port} (hr : s.rstnLow = false) (hc : (s.port p).csLow = true)
    (hf : (s.port p).receiver = .command []) :
    selectRises p s = s.modPort p fun r => { r with csLow := false, receiver := .idle } := by
  rw [selectRises_of_csLow hr hc, hf, windowCloses]

/-! ## A window cut short by RSTN (R156, R157) -/

/-- RSTN rising finds the receiver as RSTN low left it: IGNORING in an open window, IDLE outside one. -/
theorem heldPort_released (csLow : Bool) : (heldPort csLow).released = heldPort csLow := rfl

theorem releaseReset_rstnLow (s : State) : (releaseReset s).rstnLow = false := by
  unfold releaseReset
  split
  · rfl
  · next h => exact Bool.eq_false_of_not_eq_true h

theorem releaseReset_port_of_hold (s : State) (t : Time) (p : Port) :
    (releaseReset ((holdReset s).advance t)).port p = heldPort (s.port p).csLow := by
  rw [releaseReset_port (by simp), State.advance_port, holdReset_port, heldPort_released]

/-- A window that is open through a reset is ignored to its end, so its end finds no frame to cut. -/
theorem selectRises_port_of_held {s : State} {p : Port} {csLow : Bool} (hr : s.rstnLow = false)
    (hp : s.port p = heldPort csLow) : (selectRises p s).port p = heldPort false := by
  cases csLow with
  | false => rw [selectRises_of_csHigh (by rw [hp]; rfl), hp]
  | true =>
    have ignored : (s.port p).receiver = .ignoring := by rw [hp]; rfl
    rw [selectRises_of_csLow hr (by rw [hp]; rfl), ignored, windowCloses, State.modPort_port, if_pos rfl, hp]
    rfl

/-- Settles O15: the receiver state that the rise of chip select finds tells the cut frame, the empty window and the window
that RSTN cut short apart. -/
theorem cutFrameIsCounted : Obligations.CutFrameIsCounted := by
  refine ⟨fun t p b rest s hr hc hf => ?_, fun t p s hr hc hf => ?_, fun t₁ t₂ t₃ p s => ?_⟩
  · rw [exec_chipSelectRise, selectRises_of_frameBegun (by simpa) (by simpa) (by simpa)]
    rfl
  · rw [exec_chipSelectRise, selectRises_of_emptyWindow (by simpa) (by simpa) (by simpa)]
  · have hport := selectRises_port_of_held (s := (releaseReset ((holdReset (s.advance t₁)).advance t₂)).advance t₃)
      (releaseReset_rstnLow _) ((State.advance_port ..).trans (releaseReset_port_of_hold _ t₂ p))
    refine ⟨_, _, _, exec_rstnLow t₁ s, exec_rstnRise t₂ _, exec_chipSelectRise t₃ p _, ?_⟩
    rw [hport]
    exact ⟨rfl, rfl, rfl⟩

end Sys2Proof.Machine
end

section
/-! PROOFS. The parameter store: the parameter that each number of section 11.3 names, the value in force behind it, and
GET_PARAM (R183). -/

namespace Sys2Proof.Machine

/-! ## The numbers (section 11.3) -/

/-- The per-node parameters in index order. -/
def allNodeParams : List NodeParam :=
  [.window, .mode, .fixedDeadline, .eSeed, .sSeed, .slowCeiling, .retryLimit, .silenceThreshold, .timeoutThreshold]

/-- The index of a per-node parameter. -/
def NodeParam.index (k : NodeParam) : Nat := allNodeParams.idxOf k

theorem NodeParam.index_lt (k : NodeParam) : k.index < 9 := by cases k <;> decide

theorem nodeParamOf_eq_some_iff {i : Nat} {k : NodeParam} : nodeParamOf i = some k ↔ k.index = i := by
  constructor
  · intro h
    unfold nodeParamOf at h
    split at h
    case h_10 => cases h
    all_goals cases h; rfl
  · rintro rfl
    cases k <;> rfl

/-- The number of a parameter. -/
def Param.number : Param → Nat
  | .limit => 0x0001
  | .responseWindow => 0x0002
  | .dmin => 0x0003
  | .dmax => 0x0004
  | .guard => 0x0005
  | .probeInterval => 0x0006
  | .suspectInterval => 0x0007
  | .lineEnable l => 0x0010 + l.val
  | .ceiling .a => 0x0018
  | .ceiling .b => 0x0019
  | .holdTime => 0x0020
  | .queueAttention => 0x0021
  | .eventEnable ev => 0x0028 + allEvents.idxOf ev
  | .node n k => 0x0100 + 0x10 * n.val + k.index

theorem nodeNumber_eq_some_iff {num : Nat} {q : Param} :
    nodeNumber num = some q ↔ ∃ n k, q = .node n k ∧ (Param.node n k).number = num := by
  unfold nodeNumber
  constructor
  · intro h
    split at h
    case isTrue hnum =>
      obtain ⟨k, hk, rfl⟩ := Option.map_eq_some_iff.mp h
      have hindex : k.index = num % 16 := nodeParamOf_eq_some_iff.mp hk
      exact ⟨_, k, rfl, by simp only [Param.number]; omega⟩
    case isFalse => cases h
  · rintro ⟨n, k, rfl, rfl⟩
    have hk := k.index_lt
    have hindex : nodeParamOf ((Param.node n k).number % 16) = some k :=
      nodeParamOf_eq_some_iff.mpr (by simp only [Param.number]; omega)
    have hnode : ((Param.node n k).number - 0x100) / 16 = n.val := by simp only [Param.number]; omega
    rw [dif_pos (by simp only [Param.number]; omega)]
    simp [hindex, hnode]

/-- From 0100h on the numbers are those of the per-node parameters. -/
theorem paramOf_of_le {num : Nat} (h : 0x0100 ≤ num) : paramOf num = nodeNumber num := by
  unfold paramOf
  split
  case h_25 => rfl
  all_goals omega

/-- A number names the parameter whose number it is, and no number names two. -/
theorem paramOf_eq_some_iff {num : Nat} {q : Param} : paramOf num = some q ↔ q.number = num := by
  constructor
  · intro h
    unfold paramOf at h
    split at h
    case h_25 =>
      obtain ⟨n, k, rfl, hnum⟩ := nodeNumber_eq_some_iff.mp h
      exact hnum
    all_goals cases h; rfl
  · rintro rfl
    cases q with
    | lineEnable l => fin_cases l <;> rfl
    | ceiling p => cases p <;> rfl
    | eventEnable ev => cases ev <;> rfl
    | node n k =>
      rw [paramOf_of_le (by simp only [Param.number]; omega)]
      exact nodeNumber_eq_some_iff.mpr ⟨n, k, rfl, rfl⟩
    | _ => rfl

/-! ## The store -/

/-- The parameters in the order of their numbers. -/
def allParams : List Param :=
  [Param.limit, Param.responseWindow, Param.dmin, Param.dmax, Param.guard, Param.probeInterval, Param.suspectInterval]
    ++ allLines.map Param.lineEnable
    ++ [Param.ceiling .a, Param.ceiling .b, Param.holdTime, Param.queueAttention]
    ++ allEvents.map Param.eventEnable
    ++ allNodes.flatMap fun n => allNodeParams.map (Param.node n)

theorem mem_allParams (q : Param) : q ∈ allParams := by
  unfold allParams
  cases q with
  | ceiling p => cases p <;> simp
  | eventEnable ev => simp [mem_allEvents]
  | node n k =>
    have hk : k ∈ allNodeParams := by cases k <;> decide
    simp [hk]
  | _ => simp

theorem flagNat_contains (ev : Event) (set : List Event) : flagNat (set.contains ev) = if ev ∈ set then 1 else 0 := by
  simp [flagNat]

/-- The nine event enables stand from 0028h on in event-word order. -/
theorem eventEnables_stored (s : State) (p : Port) :
    (allEvents.zipIdx.map fun x => (0x0028 + x.2, if x.1 ∈ (s.port p).params.enables then 1 else 0)) =
      (allEvents.map .eventEnable).map fun q => (q.number, paramValue s p q) := by
  simp only [← flagNat_contains]
  rfl

/-- The nine parameters of a node stand from 0100h plus 10h times the node on in index order. -/
theorem nodeParams_stored (s : State) (p : Port) (n : NodeIx) :
    ((s.node n).params.stored.zipIdx.map fun x => (0x0100 + 0x10 * n.val + x.2, x.1)) =
      (allNodeParams.map (.node n)).map fun q => (q.number, paramValue s p q) := rfl

/-- The store is the list of the parameters, each with its number and its value in force. -/
theorem storedValues_eq_map (s : State) (p : Port) :
    storedValues s p = allParams.map fun q => (q.number, paramValue s p q) := by
  simp only [storedValues, allParams, List.map_append, List.map_flatMap, eventEnables_stored, nodeParams_stored s p]
  rfl

/-- The store holds `v` at a number exactly when the number names a parameter of that value. -/
theorem mem_storedValues_iff {s : State} {p : Port} {num v : Nat} :
    (num, v) ∈ storedValues s p ↔ ∃ q, paramOf num = some q ∧ paramValue s p q = v := by
  simp [storedValues_eq_map, mem_allParams, paramOf_eq_some_iff]

theorem paramOf_eq_none_of_notMem {s : State} {p : Port} {num : Nat} (h : ∀ v, (num, v) ∉ storedValues s p) :
    paramOf num = none :=
  Option.eq_none_iff_forall_ne_some.mpr fun q hq => h _ (mem_storedValues_iff.mpr ⟨q, hq, rfl⟩)

/-- The reception of a frame changes no parameter. -/
@[simp] theorem paramValue_received (f : HostFrame) (s : State) (p : Port) (q : Param) :
    paramValue (f.received s) p q = paramValue s p q := by
  cases q <;> simp [paramValue]

/-! ## GET_PARAM -/

theorem exec_getParam (t : Time) (p : Port) (flags : Byte) (num : Word) (check : Byte) (s : State) :
    exec (.getParam t p flags num check) s =
      .next (hostCommand p flags (.getParam num) check (getParamOp p num.toNat) (s.advance t)) := rfl

theorem getParamOp_of_known {num : Nat} {q : Param} (h : paramOf num = some q) (p : Port) (s : State) :
    getParamOp p num s = (s, ⟨.ok, wordBytes (paramValue s p q)⟩) := by
  simp [getParamOp, h]

theorem getParamOp_of_unknown {num : Nat} (h : paramOf num = none) (p : Port) (s : State) :
    getParamOp p num s = (s, ⟨.badParam, []⟩) := by
  simp [getParamOp, h, Reply.bare]

/-- Settles O39: the number either names a parameter, whose value the store lists, or the store does not list it. -/
theorem getParamReportsTheValue : Obligations.GetParamReportsTheValue := by
  intro f num s hf
  constructor
  · intro v hv
    obtain ⟨q, hq, rfl⟩ := mem_storedValues_iff.mp hv
    rw [exec_getParam, hostCommand_answers hf (getParamOp_of_known hq ..), paramValue_received]
  · intro hunknown
    have hnone := paramOf_eq_none_of_notMem hunknown
    rw [exec_getParam, hostCommand_answers hf (getParamOp_of_unknown hnone ..)]

end Sys2Proof.Machine
end

section
/-! PROOFS. States compared by what is read of them, and the queues of the part as places in which an entry can stand (R7). -/

namespace Sys2Proof.Machine

/-! ## Equal states -/

/-- Two states of which every accessor reads the same are the same. -/
theorem State.ext_read {s u : State} (hkept : s.kept = u.kept) (hfixed : s.fixed = u.fixed)
    (hentry : ∀ i, s.entry i = u.entry i) (hadmission : s.admission = u.admission) (hnode : ∀ n, s.node n = u.node n)
    (hline : ∀ l, s.line l = u.line l) (hport : ∀ p, s.port p = u.port p) : s = u := by
  obtain ⟨hnow, hrstn, hpending⟩ := State.kept_eq hkept
  obtain ⟨hparams, hstamp, hbuffer⟩ := State.fixed_eq hfixed
  have htable : s.table = u.table := Vector.ext fun i hi => hentry ⟨i, hi⟩
  have hnodes : s.nodes = u.nodes := Vector.ext fun n hn => hnode ⟨n, hn⟩
  have hlines : s.lines = u.lines := Vector.ext fun l hl => hline ⟨l, hl⟩
  have hA : s.portA = u.portA := hport .a
  have hB : s.portB = u.portB := hport .b
  cases s; cases u; simp_all

theorem State.lines_eq {s u : State} (h : ∀ l, s.line l = u.line l) : s.lines = u.lines :=
  Vector.ext fun l hl => h ⟨l, hl⟩

/-! ## The phases of an entry -/

@[simp] theorem Phase.isOpen_waiting : (Phase.waiting).isOpen = true := rfl
@[simp] theorem Phase.isOpen_ready : (Phase.ready).isOpen = true := rfl
@[simp] theorem Phase.isOpen_issuing (q : Seq) : (Phase.issuing q).isOpen = true := rfl
@[simp] theorem Phase.isOpen_issued (q : Seq) (d f a : Time) : (Phase.issued q d f a).isOpen = true := rfl
@[simp] theorem Phase.isOpen_part (q : Seq) (d : Time) : (Phase.part q d).isOpen = true := rfl
@[simp] theorem Phase.isOpen_done (st : Status) (x : Option Time) : (Phase.done st x).isOpen = false := rfl

@[simp] theorem Phase.isDone_waiting : (Phase.waiting).isDone = false := rfl
@[simp] theorem Phase.isDone_ready : (Phase.ready).isDone = false := rfl
@[simp] theorem Phase.isDone_issuing (q : Seq) : (Phase.issuing q).isDone = false := rfl
@[simp] theorem Phase.isDone_issued (q : Seq) (d f a : Time) : (Phase.issued q d f a).isDone = false := rfl
@[simp] theorem Phase.isDone_part (q : Seq) (d : Time) : (Phase.part q d).isDone = false := rfl
@[simp] theorem Phase.isDone_done (st : Status) (x : Option Time) : (Phase.done st x).isDone = true := rfl

@[simp] theorem Phase.liveSeq_waiting : (Phase.waiting).liveSeq = none := rfl
@[simp] theorem Phase.liveSeq_ready : (Phase.ready).liveSeq = none := rfl
@[simp] theorem Phase.liveSeq_issuing (q : Seq) : (Phase.issuing q).liveSeq = none := rfl
@[simp] theorem Phase.liveSeq_issued (q : Seq) (d f a : Time) : (Phase.issued q d f a).liveSeq = some q := rfl
@[simp] theorem Phase.liveSeq_part (q : Seq) (d : Time) : (Phase.part q d).liveSeq = some q := rfl
@[simp] theorem Phase.liveSeq_done (st : Status) (x : Option Time) : (Phase.done st x).liveSeq = none := rfl

@[simp] theorem Phase.issuingSeq_waiting : (Phase.waiting).issuingSeq = none := rfl
@[simp] theorem Phase.issuingSeq_ready : (Phase.ready).issuingSeq = none := rfl
@[simp] theorem Phase.issuingSeq_issuing (q : Seq) : (Phase.issuing q).issuingSeq = some q := rfl
@[simp] theorem Phase.issuingSeq_issued (q : Seq) (d f a : Time) : (Phase.issued q d f a).issuingSeq = none := rfl
@[simp] theorem Phase.issuingSeq_part (q : Seq) (d : Time) : (Phase.part q d).issuingSeq = none := rfl
@[simp] theorem Phase.issuingSeq_done (st : Status) (x : Option Time) : (Phase.done st x).issuingSeq = none := rfl

theorem Phase.isOpen_eq_false_iff {r : Phase} : r.isOpen = false ↔ r.isDone = true := by
  cases r <;> simp [Phase.isOpen, Phase.isDone]

theorem Phase.isDone_eq_false_iff {r : Phase} : r.isDone = false ↔ r.isOpen = true := by
  cases r <;> simp [Phase.isOpen, Phase.isDone]

theorem Status.delivers_iff {status : Status} : status.delivers = true ↔ status = .ok ∨ status = .short := by
  cases status <;> simp [Status.delivers]

/-! ## Places -/

/-- The queues of R7: the admission queue, the issue queue of a node and the completion queue of a port. -/
inductive Place where
  | admission
  | issue (n : NodeIx)
  | completion (p : Port)
  deriving DecidableEq

/-- The queue in which the state of an entry has it stand (R7). -/
def Entry.place (e : Entry) : Option Place :=
  match e.phase with
  | .waiting => some .admission
  | .ready => some (.issue e.node)
  | .done .. => some (.completion e.port)
  | .issuing _ | .issued .. | .part .. => none

/-- The queue at a place; the issue queue of an ABSENT node is absent. -/
def State.queueAt (s : State) : Place → Option (List EntryIx)
  | .admission => some s.admission
  | .issue n => (s.bound n).map BoundNode.issueQueue
  | .completion p => some (s.port p).completion

/-- The place of the entry at `i`. -/
def State.placeOf (s : State) (i : EntryIx) : Option Place := (s.entry i).bind Entry.place

theorem State.holds_iff {s : State} {i : EntryIx} {f : Entry → Bool} : s.holds i f = true ↔ ∃ e, s.entry i = some e ∧ f e = true := by
  simp [State.holds, Option.any_eq_true]

theorem State.placeOf_eq_some_iff {s : State} {i : EntryIx} {pl : Place} :
    s.placeOf i = some pl ↔ ∃ e, s.entry i = some e ∧ e.place = some pl := by
  simp [State.placeOf, Option.bind_eq_some_iff]

theorem Entry.place_eq_admission {e : Entry} : e.place = some .admission ↔ e.phase = .waiting := by
  unfold Entry.place; split <;> simp_all

theorem Entry.place_eq_issue {e : Entry} {n : NodeIx} : e.place = some (.issue n) ↔ e.node = n ∧ e.phase = .ready := by
  unfold Entry.place; split <;> simp_all

theorem Entry.place_eq_completion {e : Entry} {p : Port} :
    e.place = some (.completion p) ↔ e.port = p ∧ e.phase.isDone = true := by
  unfold Entry.place; split <;> simp_all [Phase.isDone]

/-- R7 said place by place: the queue at a place holds exactly the entries that stand there, each once. -/
theorem queueLaw_iff {s : State} :
    QueueLaw s ↔ ∀ pl, ∀ q ∈ s.queueAt pl, q.Nodup ∧ ∀ i, i ∈ q ↔ s.placeOf i = some pl := by
  have hwait : ∀ i, (s.holds i fun e => e.phase == .waiting) = true ↔ s.placeOf i = some .admission := fun i => by
    simp [State.holds_iff, State.placeOf_eq_some_iff, Entry.place_eq_admission]
  have hready : ∀ n i, (s.holds i fun e => e.node == n && e.phase == .ready) = true ↔ s.placeOf i = some (.issue n) := fun n i => by
    simp [State.holds_iff, State.placeOf_eq_some_iff, Entry.place_eq_issue]
  have hdone : ∀ p i, (s.holds i fun e => e.port == p && e.phase.isDone) = true ↔ s.placeOf i = some (.completion p) :=
    fun p i => by simp [State.holds_iff, State.placeOf_eq_some_iff, Entry.place_eq_completion]
  simp only [QueueLaw, QueueHolds, hwait, hready, hdone]
  constructor
  · rintro ⟨ha, hb, hadm, hissue⟩ (_ | n | p) q hq
    · obtain rfl : s.admission = q := by simpa [State.queueAt] using hq
      exact hadm
    · obtain ⟨b, hb', rfl⟩ : ∃ b, s.bound n = some b ∧ b.issueQueue = q := by simpa [State.queueAt] using hq
      exact hissue n b hb'
    · obtain rfl : (s.port p).completion = q := by simpa [State.queueAt] using hq
      cases p
      · exact ha
      · exact hb
  · intro h
    exact ⟨h (.completion .a) _ rfl, h (.completion .b) _ rfl, h .admission _ rfl, fun n b hb =>
      h (.issue n) _ (by simp only [State.queueAt, Option.mem_def.mp hb]; rfl)⟩

/-- The law on queue membership after entries have moved: those of `is` have left their queues and stand where their new
states have them, in whatever order, and the others stand where they stood. -/
theorem queueLaw_of_moves {s u : State} (hs : QueueLaw s) {is : List EntryIx} (hnd : is.Nodup)
    (hother : ∀ j, j ∉ is → u.placeOf j = s.placeOf j)
    (hqueue : ∀ pl, ∀ q' ∈ u.queueAt pl, ∃ q ∈ s.queueAt pl,
      q'.Perm (q.filter (fun j => j ∉ is) ++ is.filter fun i => u.placeOf i = some pl)) : QueueLaw u := by
  rw [queueLaw_iff] at hs ⊢
  intro pl q' hq'
  obtain ⟨q, hq, hperm⟩ := hqueue pl q' hq'
  obtain ⟨hqnd, hmem⟩ := hs pl q hq
  constructor
  · rw [hperm.nodup_iff]
    refine List.Nodup.append (hqnd.filter _) (hnd.filter _) fun j hj hj' => ?_
    simp only [List.mem_filter, decide_eq_true_eq] at hj hj'
    exact hj.2 hj'.1
  · intro j
    rw [hperm.mem_iff]
    by_cases hj : j ∈ is
    · simp [hj]
    · simp [hj, hother j hj, hmem]

/-- The entry of a state stands in the queue of its place, and in no other. -/
theorem QueueLaw.mem_iff {s : State} (h : QueueLaw s) {pl : Place} {q : List EntryIx} (hq : s.queueAt pl = some q)
    (i : EntryIx) : i ∈ q ↔ s.placeOf i = some pl := (queueLaw_iff.mp h pl q hq).2 i

theorem QueueLaw.nodup {s : State} (h : QueueLaw s) {pl : Place} {q : List EntryIx} (hq : s.queueAt pl = some q) : q.Nodup :=
  (queueLaw_iff.mp h pl q hq).1

theorem removed_of_notMem {i : EntryIx} {q : List EntryIx} (h : i ∉ q) : removed i q = q := by
  rw [removed, List.filter_eq_self]
  rintro j hj
  simp only [bne_iff_ne]
  rintro rfl
  exact h hj

theorem filter_notMem_singleton (i : EntryIx) (q : List EntryIx) : q.filter (fun j => j ∉ [i]) = removed i q := by
  simp [removed, bne, decide_not, Bool.beq_eq_decide_eq]

/-! ## What the small queue operations leave in the other fields -/

@[simp] theorem State.modIssueQueue_entry (s : State) (n : NodeIx) (f : List EntryIx → List EntryIx) (i : EntryIx) :
    (s.modIssueQueue n f).entry i = s.entry i := rfl
@[simp] theorem State.modIssueQueue_line (s : State) (n : NodeIx) (f : List EntryIx → List EntryIx) (l : LineIx) :
    (s.modIssueQueue n f).line l = s.line l := rfl
@[simp] theorem State.modIssueQueue_lines (s : State) (n : NodeIx) (f : List EntryIx → List EntryIx) :
    (s.modIssueQueue n f).lines = s.lines := rfl
@[simp] theorem State.modIssueQueue_port (s : State) (n : NodeIx) (f : List EntryIx → List EntryIx) (p : Port) :
    (s.modIssueQueue n f).port p = s.port p := by simp [State.modIssueQueue]
@[simp] theorem State.modIssueQueue_admission (s : State) (n : NodeIx) (f : List EntryIx → List EntryIx) :
    (s.modIssueQueue n f).admission = s.admission := rfl

/-- The issue queue of a bound node changed, in the record of each node. -/
theorem State.modIssueQueue_node (s : State) (n m : NodeIx) (f : List EntryIx → List EntryIx) :
    (s.modIssueQueue n f).node m =
      if n = m then { s.node n with bound := (s.bound n).map fun b => { b with issueQueue := f b.issueQueue } }
      else s.node m := by
  rw [State.modIssueQueue, State.modBound_node]

@[simp] theorem leaveQueue_lines (i : EntryIx) (e : Entry) (s : State) : (leaveQueue i e s).lines = s.lines :=
  State.lines_eq fun l => leaveQueue_line i e s l

/-- An entry leaves a node's issue queue only when it is READY there. -/
theorem leaveQueue_node (i : EntryIx) (e : Entry) (s : State) (n : NodeIx) :
    (leaveQueue i e s).node n =
      if e.place = some (.issue n) then
        { s.node n with bound := (s.bound n).map fun b => { b with issueQueue := removed i b.issueQueue } }
      else s.node n := by
  simp only [Entry.place_eq_issue]
  unfold leaveQueue
  rcases eq_or_ne e.node n with rfl | hn <;> split <;> simp [*, State.modIssueQueue_node]

theorem leaveQueue_bound (i : EntryIx) (e : Entry) (s : State) (n : NodeIx) :
    (leaveQueue i e s).bound n =
      if e.place = some (.issue n) then (s.bound n).map fun b => { b with issueQueue := removed i b.issueQueue }
      else s.bound n := by
  simp only [State.bound, leaveQueue_node]; split <;> rfl

theorem leaveQueue_admission (i : EntryIx) (e : Entry) (s : State) :
    (leaveQueue i e s).admission = if e.place = some .admission then removed i s.admission else s.admission := by
  simp only [Entry.place_eq_admission]
  unfold leaveQueue
  split <;> rename_i h <;> simp [h]

theorem leaveQueue_port (i : EntryIx) (e : Entry) (s : State) (p : Port) :
    (leaveQueue i e s).port p =
      if e.place = some (.completion p) then { s.port p with completion := removed i (s.port p).completion }
      else s.port p := by
  simp only [Entry.place_eq_completion]
  unfold leaveQueue
  rcases eq_or_ne e.port p with rfl | hp <;> split <;> simp [*, Phase.isDone, State.modPort_port]

/-- An entry that leaves its queue is then in none: the law on queue membership makes one rule of the three cases. -/
theorem leaveQueue_queueAt {s : State} (hs : QueueLaw s) {i : EntryIx} {e : Entry} (he : s.entry i = some e) (pl : Place) :
    (leaveQueue i e s).queueAt pl = (s.queueAt pl).map (removed i) := by
  have hplace : s.placeOf i = e.place := by simp [State.placeOf, he]
  have hcase : ∀ q, s.queueAt pl = some q → e.place ≠ some pl → removed i q = q := fun q hq hne =>
    removed_of_notMem fun hi => hne (hplace ▸ (hs.mem_iff hq i).mp hi)
  by_cases hpl : e.place = some pl
  · rcases pl with _ | n | p
    · simp [State.queueAt, leaveQueue_admission, hpl]
    · simp only [State.queueAt, leaveQueue_bound, hpl, if_true, Option.map_map]; rfl
    · simp [State.queueAt, leaveQueue_port, hpl]
  · have hsame : (leaveQueue i e s).queueAt pl = s.queueAt pl := by
      rcases pl with _ | n | p
      · simp [State.queueAt, leaveQueue_admission, hpl]
      · simp [State.queueAt, leaveQueue_bound, hpl]
      · simp [State.queueAt, leaveQueue_port, hpl]
    rw [hsame]
    cases hq : s.queueAt pl with
    | none => rfl
    | some q => simp [hcase q hq hpl]

end Sys2Proof.Machine
end

section
/-! PROOFS. The move to DONE (R15): of one entry, and of several one after the other. -/

namespace Sys2Proof.Machine

/-! ## One entry -/

theorem finish_of_isDone {i : EntryIx} {s : State} (h : ∀ e ∈ s.entry i, e.phase.isDone = true) (status : Status) :
    finish status i s = s := by
  unfold finish
  split
  · rfl
  · rename_i e he
    rw [if_neg]
    simp [Phase.isOpen_eq_false_iff, h e he]

/-- The state between a move to DONE and the clearing of the timeout count. -/
theorem finish_of_isOpen {i : EntryIx} {e : Entry} {s : State} (he : s.entry i = some e) (ho : e.phase.isOpen = true)
    (status : Status) :
    finish status i s =
      (let queued := ((leaveQueue i e s).setEntry i (some (e.finished status (holdEnd s e.port)))).modPort e.port fun r =>
        { r with completion := r.completion ++ [i] }
      if status.delivers then clearTimeouts e.node queued else queued) := by
  simp [finish, he, ho]

theorem finish_entry {i : EntryIx} {e : Entry} {s : State} (he : s.entry i = some e) (ho : e.phase.isOpen = true)
    (status : Status) (j : EntryIx) :
    (finish status i s).entry j = if i = j then some (e.finished status (holdEnd s e.port)) else s.entry j := by
  rw [finish_of_isOpen he ho]
  dsimp only
  split <;> simp [clearTimeouts, State.setEntry_entry]

/-- A move to DONE changes its own entry alone. -/
theorem finish_entry_ne (status : Status) {i j : EntryIx} (h : i ≠ j) (s : State) :
    (finish status i s).entry j = s.entry j := by
  cases he : s.entry i with
  | none => rw [finish_of_isDone (by simp [he])]
  | some e =>
    cases ho : e.phase.isOpen with
    | false => rw [finish_of_isDone (by simp [he, ← Phase.isOpen_eq_false_iff, ho])]
    | true => rw [finish_entry he ho, if_neg h]

/-- What a move to DONE leaves of a bound node: its issue queue without the entry, and the timeout count of the entry's node
cleared with OK and SHORT. -/
def BoundNode.afterFinish (status : Status) (i : EntryIx) (e : Entry) (n : NodeIx) (b : BoundNode) : BoundNode :=
  { b with
    issueQueue := if e.place = some (.issue n) then removed i b.issueQueue else b.issueQueue
    timeouts := if n = e.node ∧ status.delivers = true then 0 else b.timeouts }

theorem finish_node {i : EntryIx} {e : Entry} {s : State} (he : s.entry i = some e) (ho : e.phase.isOpen = true)
    (status : Status) (n : NodeIx) :
    (finish status i s).node n = { s.node n with bound := (s.bound n).map (BoundNode.afterFinish status i e n) } := by
  rw [finish_of_isOpen he ho]
  unfold BoundNode.afterFinish
  dsimp only
  rcases eq_or_ne e.node n with rfl | hn
  · split <;>
      simp [*, clearTimeouts, State.modBound_node, leaveQueue_node, leaveQueue_bound] <;>
      split <;> cases hb : s.bound e.node <;> simp_all [State.bound] <;> cases hr : s.node e.node <;> simp_all
  · split <;>
      simp [*, clearTimeouts, State.modBound_node, leaveQueue_node, hn.symm] <;>
      split <;> cases hb : s.bound n <;> simp_all [State.bound] <;> cases hr : s.node n <;> simp_all

theorem finish_bound {i : EntryIx} {e : Entry} {s : State} (he : s.entry i = some e) (ho : e.phase.isOpen = true)
    (status : Status) (n : NodeIx) :
    (finish status i s).bound n = (s.bound n).map (BoundNode.afterFinish status i e n) := by
  rw [State.bound, finish_node he ho]

theorem finish_port {i : EntryIx} {e : Entry} {s : State} (he : s.entry i = some e) (ho : e.phase.isOpen = true)
    (status : Status) (p : Port) :
    (finish status i s).port p =
      if e.port = p then { s.port p with completion := (s.port p).completion ++ [i] } else s.port p := by
  have hplace : e.place ≠ some (.completion p) := by
    rw [Ne, Entry.place_eq_completion, ← Phase.isOpen_eq_false_iff, ho]; simp
  rw [finish_of_isOpen he ho]
  dsimp only
  rcases eq_or_ne e.port p with rfl | hp <;> split <;> simp [*, clearTimeouts, State.modPort_port, leaveQueue_port]

theorem finish_admission {i : EntryIx} {e : Entry} {s : State} (he : s.entry i = some e) (ho : e.phase.isOpen = true)
    (status : Status) :
    (finish status i s).admission = if e.place = some .admission then removed i s.admission else s.admission := by
  rw [finish_of_isOpen he ho]
  dsimp only
  split <;> simp [clearTimeouts, leaveQueue_admission]

@[simp] theorem finish_line (status : Status) (i : EntryIx) (s : State) (l : LineIx) :
    (finish status i s).line l = s.line l := by
  cases he : s.entry i with
  | none => rw [finish_of_isDone (by simp [he])]
  | some e =>
    cases ho : e.phase.isOpen with
    | false => rw [finish_of_isDone (by simp [he, ← Phase.isOpen_eq_false_iff, ho])]
    | true => rw [finish_of_isOpen he ho]; dsimp only; split <;> simp [clearTimeouts]

/-- An entry that is moved to DONE leaves the queue of its former place and joins the tail of its port's completion queue. -/
theorem finish_queueAt {i : EntryIx} {e : Entry} {s : State} (hs : QueueLaw s) (he : s.entry i = some e)
    (ho : e.phase.isOpen = true) (status : Status) (pl : Place) :
    (finish status i s).queueAt pl =
      (s.queueAt pl).map fun q => removed i q ++ if pl = .completion e.port then [i] else [] := by
  have hleave := leaveQueue_queueAt hs he pl
  rcases pl with _ | n | p
  · simp only [State.queueAt, Option.map_some, Option.some.injEq, leaveQueue_admission] at hleave ⊢
    rw [finish_admission he ho, hleave]; simp
  · simp only [State.queueAt, finish_bound he ho, leaveQueue_bound, Option.map_map] at hleave ⊢
    rw [show (fun q => removed i q ++ if Place.issue n = Place.completion e.port then [i] else []) ∘ BoundNode.issueQueue =
      removed i ∘ BoundNode.issueQueue by funext b; simp, ← Option.map_map, ← hleave]
    split <;> simp [Option.map_map, Function.comp_def, BoundNode.afterFinish, *]
  · have hplace : e.place ≠ some (.completion p) := by
      rw [Ne, Entry.place_eq_completion, ← Phase.isOpen_eq_false_iff, ho]; simp
    simp only [State.queueAt, finish_port he ho, leaveQueue_port, hplace, if_false, Option.map_some, Option.some.injEq] at hleave ⊢
    rw [← hleave]
    rcases eq_or_ne e.port p with rfl | hp
    · simp
    · simp [hp, hp.symm]

@[simp] theorem Entry.finished_place (status : Status) (expiry : Option Time) (e : Entry) :
    (e.finished status expiry).place = some (.completion e.port) := by
  cases h : status.delivers <;> simp [Entry.finished, Entry.place, h]

theorem finish_placeOf {i : EntryIx} {e : Entry} {s : State} (he : s.entry i = some e) (ho : e.phase.isOpen = true)
    (status : Status) (j : EntryIx) :
    (finish status i s).placeOf j = if i = j then some (.completion e.port) else s.placeOf j := by
  simp only [State.placeOf, finish_entry he ho]; split <;> simp

/-- The move to DONE keeps the law on queue membership. -/
theorem finish_queueLaw {s : State} (hs : QueueLaw s) (status : Status) (i : EntryIx) : QueueLaw (finish status i s) := by
  cases he : s.entry i with
  | none => rwa [finish_of_isDone (by simp [he])]
  | some e =>
    cases ho : e.phase.isOpen with
    | false => rwa [finish_of_isDone (by simp [he, ← Phase.isOpen_eq_false_iff, ho])]
    | true =>
      refine queueLaw_of_moves hs (List.nodup_singleton i) (fun j hj => ?_) fun pl q' hq' => ?_
      · rw [finish_placeOf he ho, if_neg (by simpa [eq_comm] using hj)]
      · rw [finish_queueAt hs he ho] at hq'
        obtain ⟨q, hq, rfl⟩ := Option.map_eq_some_iff.mp hq'
        refine ⟨q, hq, ?_⟩
        rw [filter_notMem_singleton]
        simp only [finish_placeOf he ho, List.filter_singleton, if_true, Option.some.injEq]
        rcases eq_or_ne pl (.completion e.port) with rfl | hpl <;> simp [*, eq_comm]

/-- Settles O55: the rules of the move read off, each queue by its place. -/
theorem moveToDoneSettlesTheEntry : Obligations.MoveToDoneSettlesTheEntry := by
  intro status i s hs
  refine ⟨fun h => finish_of_isDone h status, fun e he hdone => ?_⟩
  have ho : e.phase.isOpen = true := Phase.isDone_eq_false_iff.mp hdone
  obtain ⟨hnow, hrstn, hpending⟩ := State.kept_eq (finish_kept status i s)
  obtain ⟨hparams, hstamp, hbuffer⟩ := State.fixed_eq (finish_fixed status i s)
  have hremoved : ∀ q : List EntryIx, removed i q = q.filter (· ≠ i) := fun q => by
    simp [removed, bne, decide_not, Bool.beq_eq_decide_eq]
  refine ⟨?_, fun j hj => finish_entry_ne status hj.symm s, ?_, fun p hp => ?_, ?_, fun n b hb => ?_, fun n hn => ?_,
    State.lines_eq (finish_line status i s), hparams, hbuffer, hstamp, hnow, hrstn, hpending⟩
  · rw [finish_entry he ho, if_pos rfl]
    simp only [Entry.finished, Status.delivers_iff, holdEnd, millis, usPerMs, Nat.mul_comm]
    split <;> simp
  · rw [finish_port he ho, if_pos rfl]
  · rw [finish_port he ho, if_neg hp.symm]
  · have h := finish_queueAt hs he ho status .admission
    simp only [State.queueAt, Option.map_some, Option.some.injEq, reduceCtorEq, if_false, List.append_nil] at h
    rw [h, hremoved]
  · have h := finish_queueAt hs he ho status (.issue n)
    simp only [State.queueAt, finish_bound he ho, hb, Option.map_some, Option.some.injEq, reduceCtorEq, if_false,
      List.append_nil, hremoved] at h
    rw [finish_node he ho, hb, ← h]
    simp only [Status.delivers_iff, BoundNode.afterFinish, Option.map_some]
  · rw [finish_node he ho, hn, Option.map_none, ← hn]; rfl

end Sys2Proof.Machine
end

section
/-! PROOFS. Several entries moved to DONE one after the other (R55, R122), the return to READY (R13, R14), and freeing (R20). -/

namespace Sys2Proof.Machine

/-! ## Several entries moved to DONE -/

@[simp] theorem finishAll_nil (status : Status) (s : State) : finishAll status [] s = s := rfl

@[simp] theorem finishAll_cons (status : Status) (i : EntryIx) (rest : List EntryIx) (s : State) :
    finishAll status (i :: rest) s = finishAll status rest (finish status i s) := rfl

@[simp] theorem finishAll_line (status : Status) (is : List EntryIx) (s : State) (l : LineIx) :
    (finishAll status is s).line l = s.line l := by
  induction is generalizing s with
  | nil => rfl
  | cons i rest ih => simp [ih]

theorem finishAll_queueLaw {s : State} (hs : QueueLaw s) (status : Status) (is : List EntryIx) :
    QueueLaw (finishAll status is s) := by
  induction is generalizing s with
  | nil => exact hs
  | cons i rest ih => exact ih (finish_queueLaw hs status i)

/-- The record of an entry when its move to DONE is asked for: a DONE entry is not touched (R21). -/
def Entry.ended (status : Status) (s : State) (e : Entry) : Entry :=
  if e.phase.isOpen then e.finished status (holdEnd s e.port) else e

theorem holdEnd_congr {s u : State} {p : Port} (hnow : u.now = s.now) (hparams : (u.port p).params = (s.port p).params) :
    holdEnd u p = holdEnd s p := by simp [holdEnd, hnow, hparams]

theorem finish_port_params (status : Status) (i : EntryIx) (s : State) (p : Port) :
    ((finish status i s).port p).params = (s.port p).params := by
  cases he : s.entry i with
  | none => rw [finish_of_isDone (by simp [he])]
  | some e =>
    cases ho : e.phase.isOpen with
    | false => rw [finish_of_isDone (by simp [he, ← Phase.isOpen_eq_false_iff, ho])]
    | true => rw [finish_port he ho]; split <;> rfl

@[simp] theorem finish_holdEnd (status : Status) (i : EntryIx) (s : State) (p : Port) :
    holdEnd (finish status i s) p = holdEnd s p :=
  holdEnd_congr (State.kept_eq (finish_kept status i s)).1 (finish_port_params status i s p)

@[simp] theorem Entry.finished_phase (status : Status) (expiry : Option Time) (e : Entry) :
    (e.finished status expiry).phase = .done status expiry := by
  unfold Entry.finished; split <;> rfl

@[simp] theorem Entry.finished_port (status : Status) (expiry : Option Time) (e : Entry) :
    (e.finished status expiry).port = e.port := by
  unfold Entry.finished; split <;> rfl

@[simp] theorem Entry.finished_node (status : Status) (expiry : Option Time) (e : Entry) :
    (e.finished status expiry).node = e.node := by
  unfold Entry.finished; split <;> rfl

/-- A move to DONE, in the entry at its index. -/
theorem finish_entry_self (status : Status) (i : EntryIx) (s : State) :
    (finish status i s).entry i = (s.entry i).map (Entry.ended status s) := by
  cases he : s.entry i with
  | none => rw [finish_of_isDone (by simp [he]), he]; rfl
  | some e =>
    cases ho : e.phase.isOpen with
    | false =>
      rw [finish_of_isDone (by simp [he, ← Phase.isOpen_eq_false_iff, ho]), he]
      simp [Entry.ended, ho]
    | true => rw [finish_entry he ho, if_pos rfl]; simp [Entry.ended, ho]

theorem Entry.ended_finish (status : Status) (i : EntryIx) (s : State) :
    Entry.ended status (finish status i s) = Entry.ended status s := by
  funext e; simp [Entry.ended]

theorem Entry.ended_ended (status : Status) (s : State) (e : Entry) :
    (e.ended status s).ended status s = e.ended status s := by
  cases h : e.phase.isOpen <;> simp [Entry.ended, h]

theorem finishAll_entry (status : Status) (is : List EntryIx) (s : State) (j : EntryIx) :
    (finishAll status is s).entry j = if j ∈ is then (s.entry j).map (Entry.ended status s) else s.entry j := by
  induction is generalizing s with
  | nil => simp
  | cons i rest ih =>
    rw [finishAll_cons, ih, Entry.ended_finish]
    rcases eq_or_ne i j with rfl | hij
    · rw [finish_entry_self]
      by_cases hi : i ∈ rest
      · simp [hi, Function.comp_def, Entry.ended_ended]
      · simp [hi]
    · simp [finish_entry_ne status hij, hij.symm]

/-- The rules of one move under the law on queue membership: the entry leaves whatever issue queue it stands in. -/
theorem finish_node_of_queueLaw {i : EntryIx} {e : Entry} {s : State} (hs : QueueLaw s) (he : s.entry i = some e)
    (ho : e.phase.isOpen = true) {status : Status} (hst : status.delivers = false) (n : NodeIx) :
    (finish status i s).node n =
      { s.node n with bound := (s.bound n).map fun b => { b with issueQueue := removed i b.issueQueue } } := by
  have h := finish_queueAt hs he ho status (.issue n)
  simp only [State.queueAt, finish_bound he ho, reduceCtorEq, if_false, List.append_nil, Option.map_map] at h
  rw [finish_node he ho]
  cases hb : s.bound n with
  | none => rfl
  | some b => simpa [hb, BoundNode.afterFinish, hst] using h

theorem filter_removed (i : EntryIx) (rest q : List EntryIx) :
    (removed i q).filter (fun j => j ∉ rest) = q.filter fun j => j ∉ i :: rest := by
  rw [removed, List.filter_filter]
  exact List.filter_congr fun j _ => by by_cases hj : j = i <;> simp [hj]

section
variable {status : Status} {is : List EntryIx} {s : State} (hs : QueueLaw s) (hnd : is.Nodup)
  (hopen : ∀ i ∈ is, ∃ e, s.entry i = some e ∧ e.phase.isOpen = true)
include hs hnd hopen

/-- The node records after several moves to DONE without data: the entries have left the issue queues. -/
theorem finishAll_node (hst : status.delivers = false) (n : NodeIx) :
    (finishAll status is s).node n =
      { s.node n with
        bound := (s.bound n).map fun b => { b with issueQueue := b.issueQueue.filter fun j => j ∉ is } } := by
  induction is generalizing s with
  | nil => cases hb : s.bound n <;> simp_all [State.bound] <;> cases hr : s.node n <;> simp_all
  | cons i rest ih =>
    obtain ⟨e, he, ho⟩ := hopen i List.mem_cons_self
    have hrest : ∀ j ∈ rest, ∃ e', (finish status i s).entry j = some e' ∧ e'.phase.isOpen = true := fun j hj => by
      rw [finish_entry_ne status (by rintro rfl; exact (List.nodup_cons.mp hnd).1 hj)]
      exact hopen j (List.mem_cons_of_mem _ hj)
    have hnode := finish_node_of_queueLaw hs he ho hst n
    rw [finishAll_cons, ih (finish_queueLaw hs status i) (List.nodup_cons.mp hnd).2 hrest, State.bound, hnode]
    simp only [Option.map_map, Function.comp_def, filter_removed]

/-- The ports after several moves to DONE: the entries stand in their ports' completion queues in the order of the moves. -/
theorem finishAll_port (p : Port) :
    (finishAll status is s).port p =
      { s.port p with
        completion := (s.port p).completion ++ is.filter fun i => s.holds i fun e => e.port == p } := by
  induction is generalizing s with
  | nil => simp
  | cons i rest ih =>
    obtain ⟨e, he, ho⟩ := hopen i List.mem_cons_self
    have hne : ∀ j ∈ rest, i ≠ j := fun j hj => by rintro rfl; exact (List.nodup_cons.mp hnd).1 hj
    have hrest : ∀ j ∈ rest, ∃ e', (finish status i s).entry j = some e' ∧ e'.phase.isOpen = true := fun j hj => by
      rw [finish_entry_ne status (hne j hj)]; exact hopen j (List.mem_cons_of_mem _ hj)
    have hholds : (rest.filter fun j => (finish status i s).holds j fun e => e.port == p) =
        rest.filter fun j => s.holds j fun e => e.port == p :=
      List.filter_congr fun j hj => by simp [State.holds, finish_entry_ne status (hne j hj)]
    rw [finishAll_cons, ih (finish_queueLaw hs status i) (List.nodup_cons.mp hnd).2 hrest, hholds, finish_port he ho]
    rcases eq_or_ne e.port p with rfl | hp <;> simp [State.holds, *]

/-- The admission queue after several moves to DONE. -/
theorem finishAll_admission :
    (finishAll status is s).admission = s.admission.filter fun j => j ∉ is := by
  induction is generalizing s with
  | nil => simp
  | cons i rest ih =>
    obtain ⟨e, he, ho⟩ := hopen i List.mem_cons_self
    have hrest : ∀ j ∈ rest, ∃ e', (finish status i s).entry j = some e' ∧ e'.phase.isOpen = true := fun j hj => by
      rw [finish_entry_ne status (by rintro rfl; exact (List.nodup_cons.mp hnd).1 hj)]
      exact hopen j (List.mem_cons_of_mem _ hj)
    have hadm := finish_queueAt hs he ho status .admission
    simp only [State.queueAt, Option.map_some, Option.some.injEq, reduceCtorEq, if_false, List.append_nil] at hadm
    rw [finishAll_cons, ih (finish_queueLaw hs status i) (List.nodup_cons.mp hnd).2 hrest, hadm, filter_removed]

end

/-! ## The return to READY -/

theorem foldl_modEntry_entry (f : Entry → Entry) {is : List EntryIx} (hnd : is.Nodup) (s : State) (j : EntryIx) :
    (is.foldl (fun s i => s.modEntry i f) s).entry j = if j ∈ is then (s.entry j).map f else s.entry j := by
  induction is generalizing s with
  | nil => simp
  | cons i rest ih =>
    obtain ⟨hi, hrest⟩ := List.nodup_cons.mp hnd
    rw [List.foldl_cons, ih hrest, State.modEntry_entry]
    rcases eq_or_ne i j with rfl | hij
    · simp [hi]
    · simp [hij, hij.symm]

/-- Changes of entries leave every field but the table as it was. -/
theorem foldl_modEntry_rest (f : Entry → Entry) (is : List EntryIx) (s : State) :
    ∃ table, is.foldl (fun s i => s.modEntry i f) s = { s with table := table } := by
  induction is generalizing s with
  | nil => exact ⟨s.table, rfl⟩
  | cons i rest ih => exact ih (s.modEntry i f)

theorem returnToReady_entry (charged : Bool) (n : NodeIx) {is : List EntryIx} (hnd : is.Nodup) (s : State) (j : EntryIx) :
    (returnToReady charged n is s).entry j = if j ∈ is then (s.entry j).map (Entry.returned charged) else s.entry j := by
  rw [returnToReady, queueFirst, State.modIssueQueue_entry, foldl_modEntry_entry _ hnd]

theorem returnToReady_node (charged : Bool) (n : NodeIx) (is : List EntryIx) (s : State) (m : NodeIx) :
    (returnToReady charged n is s).node m =
      if n = m then
        { s.node n with bound := (s.bound n).map fun b => { b with issueQueue := s.byStamp is ++ b.issueQueue } }
      else s.node m := by
  obtain ⟨table, h⟩ := foldl_modEntry_rest (Entry.returned charged) is s
  rw [returnToReady, queueFirst, h, State.modIssueQueue_node]; rfl

theorem returnToReady_bound (charged : Bool) (n : NodeIx) (is : List EntryIx) (s : State) (m : NodeIx) :
    (returnToReady charged n is s).bound m =
      if n = m then (s.bound n).map fun b => { b with issueQueue := s.byStamp is ++ b.issueQueue } else s.bound m := by
  rw [State.bound, returnToReady_node]; split <;> rfl

@[simp] theorem returnToReady_lines (charged : Bool) (n : NodeIx) (is : List EntryIx) (s : State) :
    (returnToReady charged n is s).lines = s.lines := by
  obtain ⟨table, h⟩ := foldl_modEntry_rest (Entry.returned charged) is s
  rw [returnToReady, queueFirst, h]; rfl

@[simp] theorem returnToReady_line (charged : Bool) (n : NodeIx) (is : List EntryIx) (s : State) (l : LineIx) :
    (returnToReady charged n is s).line l = s.line l := by
  rw [State.line, State.line, returnToReady_lines]

@[simp] theorem returnToReady_admission (charged : Bool) (n : NodeIx) (is : List EntryIx) (s : State) :
    (returnToReady charged n is s).admission = s.admission := by
  obtain ⟨table, h⟩ := foldl_modEntry_rest (Entry.returned charged) is s
  rw [returnToReady, queueFirst, h]; rfl

@[simp] theorem returnToReady_port (charged : Bool) (n : NodeIx) (is : List EntryIx) (s : State) (p : Port) :
    (returnToReady charged n is s).port p = s.port p := by
  obtain ⟨table, h⟩ := foldl_modEntry_rest (Entry.returned charged) is s
  rw [returnToReady, queueFirst, h]; cases p <;> rfl

theorem byStamp_perm (s : State) (is : List EntryIx) : (s.byStamp is).Perm is := List.perm_insertionSort _ is

@[simp] theorem mem_byStamp {s : State} {is : List EntryIx} {i : EntryIx} : i ∈ s.byStamp is ↔ i ∈ is :=
  (byStamp_perm s is).mem_iff

theorem byStamp_pairwise (s : State) (is : List EntryIx) : (s.byStamp is).Pairwise fun i j => s.stampAt i ≤ s.stampAt j :=
  List.pairwise_insertionSort (r := fun i j => s.stampAt i ≤ s.stampAt j) is

/-- Settles O56: the rules of the return, with the order by last issue. -/
theorem returnToReadyKeepsTheOrder : Obligations.ReturnToReadyKeepsTheOrder := by
  intro charged n b is s hnd hb
  obtain ⟨hnow, hrstn, hpending⟩ := State.kept_eq (returnToReady_kept charged n is s)
  obtain ⟨hparams, hstamp, hbuffer⟩ := State.fixed_eq (returnToReady_fixed charged n is s)
  refine ⟨fun i hi e he => ?_, fun i hi => ?_, ⟨s.byStamp is, ?_, byStamp_perm s is, byStamp_pairwise s is⟩, fun m hm => ?_,
    by simp, by simp, returnToReady_port charged n is s .a, returnToReady_port charged n is s .b, hparams, hbuffer, hstamp,
    hnow, hrstn, hpending⟩
  · rw [returnToReady_entry charged n hnd, if_pos hi, Option.mem_def.mp he]; rfl
  · rw [returnToReady_entry charged n hnd, if_neg hi]
  · rw [returnToReady_node, if_pos rfl, hb]; rfl
  · rw [returnToReady_node, if_neg hm.symm]

@[simp] theorem Entry.returned_place (charged : Bool) (e : Entry) : (e.returned charged).place = some (.issue e.node) := rfl

/-- The return of entries that stand in no queue keeps the law on queue membership. -/
theorem returnToReady_queueLaw {s : State} (hs : QueueLaw s) (charged : Bool) {n : NodeIx} {is : List EntryIx}
    (hnd : is.Nodup) (hplace : ∀ i ∈ is, ∃ e, s.entry i = some e ∧ e.node = n ∧ e.place = none) :
    QueueLaw (returnToReady charged n is s) := by
  have hout : ∀ i ∈ is, s.placeOf i = none := fun i hi => by
    obtain ⟨e, he, -, hp⟩ := hplace i hi; simp [State.placeOf, he, hp]
  have hin : ∀ i ∈ is, (returnToReady charged n is s).placeOf i = some (.issue n) := fun i hi => by
    obtain ⟨e, he, hn, -⟩ := hplace i hi
    simp [State.placeOf, returnToReady_entry charged n hnd, hi, he, hn]
  have hnone : ∀ pl q, s.queueAt pl = some q → q.filter (fun j => decide (j ∉ is)) = q := fun pl q hq => by
    rw [List.filter_eq_self]
    intro j hj
    rw [decide_eq_true_eq]
    intro hmem
    have := (hs.mem_iff hq j).mp hj
    rw [hout j hmem] at this
    simp at this
  have hfilter : ∀ pl, (is.filter fun i => (returnToReady charged n is s).placeOf i = some pl) = if pl = .issue n then is else [] := by
    intro pl
    split
    · rename_i hpl; subst hpl
      exact List.filter_eq_self.mpr fun i hi => by simp [hin i hi]
    · rename_i hpl
      exact List.filter_eq_nil_iff.mpr fun i hi => by simp [hin i hi, Ne.symm hpl]
  refine queueLaw_of_moves hs hnd (fun j hj => ?_) fun pl q' hq' => ?_
  · simp [State.placeOf, returnToReady_entry charged n hnd, hj]
  · rw [hfilter]
    rcases pl with _ | m | p
    · refine ⟨s.admission, rfl, ?_⟩
      obtain rfl : s.admission = q' := by simpa [State.queueAt] using hq'
      rw [hnone .admission _ rfl]; simp
    · simp only [State.queueAt, returnToReady_bound] at hq'
      rcases eq_or_ne n m with rfl | hm
      · obtain ⟨b, hb, rfl⟩ : ∃ b, s.bound n = some b ∧ s.byStamp is ++ b.issueQueue = q' := by simpa using hq'
        have hq : s.queueAt (.issue n) = some b.issueQueue := by simp [State.queueAt, hb]
        refine ⟨_, hq, ?_⟩
        rw [hnone _ _ hq, if_pos rfl]
        exact ((byStamp_perm s is).append_right _).trans List.perm_append_comm
      · rw [if_neg hm] at hq'
        have hq : s.queueAt (.issue m) = some q' := hq'
        refine ⟨q', hq, ?_⟩
        rw [hnone _ _ hq]; simp [hm.symm]
    · refine ⟨(s.port p).completion, rfl, ?_⟩
      obtain rfl : (s.port p).completion = q' := by simpa [State.queueAt] using hq'
      rw [hnone (.completion p) _ rfl]; simp

/-! ## Freeing -/

theorem freeEntry_eq {i : EntryIx} {e : Entry} {s : State} (he : s.entry i = some e) :
    freeEntry i s = (leaveQueue i e s).setEntry i none := by simp [freeEntry, he]

theorem freeEntry_of_none {i : EntryIx} {s : State} (he : s.entry i = none) : freeEntry i s = s := by simp [freeEntry, he]

@[simp] theorem freeEntry_line (i : EntryIx) (s : State) (l : LineIx) : (freeEntry i s).line l = s.line l := by
  cases he : s.entry i with
  | none => rw [freeEntry_of_none he]
  | some e => simp [freeEntry_eq he]

/-- A freed entry leaves its queue, whichever it is. -/
theorem freeEntry_queueAt {s : State} (hs : QueueLaw s) (i : EntryIx) (pl : Place) :
    (freeEntry i s).queueAt pl = (s.queueAt pl).map (removed i) := by
  cases he : s.entry i with
  | none =>
    rw [freeEntry_of_none he]
    cases hq : s.queueAt pl with
    | none => rfl
    | some q =>
      rw [Option.map_some, removed_of_notMem]
      rw [hs.mem_iff hq, State.placeOf, he]; simp
  | some e =>
    rw [← leaveQueue_queueAt hs he, freeEntry_eq he]
    rcases pl with _ | n | p <;> simp [State.queueAt]

theorem freeEntry_queueLaw {s : State} (hs : QueueLaw s) (i : EntryIx) : QueueLaw (freeEntry i s) := by
  refine queueLaw_of_moves hs (List.nodup_singleton i) (fun j hj => ?_) fun pl q' hq' => ?_
  · simp [State.placeOf, freeEntry_entry, show i ≠ j by simpa [eq_comm] using hj]
  · rw [freeEntry_queueAt hs] at hq'
    obtain ⟨q, hq, rfl⟩ := Option.map_eq_some_iff.mp hq'
    refine ⟨q, hq, ?_⟩
    rw [filter_notMem_singleton]
    simp [State.placeOf, freeEntry_entry]

end Sys2Proof.Machine
end

section
/-! PROOFS. The committed total as a sum over the entries (R26), the grant of the admission queue's head and the test of the
heads (R9, R31). -/

namespace Sys2Proof.Machine

/-! ## The committed total -/

/-- What the entry at `i` has committed; nothing when it is FREE. -/
def State.committedAt (s : State) (i : EntryIx) : Nat := ((s.entry i).map Entry.committed).getD 0

theorem committedTotal_eq_sum (s : State) : s.committedTotal = ∑ i, s.committedAt i := by
  have h : ∀ is : List EntryIx, ((is.filterMap s.entry).map Entry.committed).sum = (is.map s.committedAt).sum := fun is => by
    induction is with
    | nil => rfl
    | cons i rest ih => cases he : s.entry i <;> simp [he, ih, State.committedAt]
  rw [Fin.sum_univ_def, ← h]; rfl

/-- A change of one entry moves the committed total by what that entry has committed. -/
theorem committedTotal_update {s u : State} {i : EntryIx} (h : ∀ j, j ≠ i → u.entry j = s.entry j) :
    u.committedTotal + s.committedAt i = s.committedTotal + u.committedAt i := by
  have hrest : ∑ j ∈ Finset.univ.erase i, u.committedAt j = ∑ j ∈ Finset.univ.erase i, s.committedAt j :=
    Finset.sum_congr rfl fun j hj => by rw [State.committedAt, h j (Finset.ne_of_mem_erase hj)]; rfl
  rw [committedTotal_eq_sum, committedTotal_eq_sum, ← Finset.add_sum_erase _ u.committedAt (Finset.mem_univ i),
    ← Finset.add_sum_erase _ s.committedAt (Finset.mem_univ i), hrest]
  omega

/-- A part of which no entry has more committed than in another has no larger a committed total. -/
theorem committedTotal_le {s u : State} (h : ∀ i, u.committedAt i ≤ s.committedAt i) : u.committedTotal ≤ s.committedTotal := by
  rw [committedTotal_eq_sum, committedTotal_eq_sum]
  exact Finset.sum_le_sum fun i _ => h i

/-! ## The grant of the head -/

/-- The record of a WAITING entry that is granted (R9). -/
def Entry.granted (e : Entry) : Entry := { e with committed := e.need, phase := .ready }

@[simp] theorem Entry.granted_node (e : Entry) : e.granted.node = e.node := rfl
@[simp] theorem Entry.granted_place (e : Entry) : e.granted.place = some (.issue e.node) := rfl

theorem grantHead_entry (i : EntryIx) (e : Entry) (s : State) (j : EntryIx) :
    (grantHead i e s).entry j = if i = j then some e.granted else s.entry j := by
  simp [grantHead, queueLast, State.setEntry_entry, Entry.granted]

theorem grantHead_node (i : EntryIx) (e : Entry) (s : State) (n : NodeIx) :
    (grantHead i e s).node n =
      if e.node = n then
        { s.node n with bound := (s.bound n).map fun b => { b with issueQueue := b.issueQueue ++ [i] } }
      else s.node n := by
  rw [grantHead, queueLast, State.modIssueQueue_node]
  rcases eq_or_ne e.node n with rfl | h <;> simp [*]

theorem grantHead_bound (i : EntryIx) (e : Entry) (s : State) (n : NodeIx) :
    (grantHead i e s).bound n =
      if e.node = n then (s.bound n).map fun b => { b with issueQueue := b.issueQueue ++ [i] } else s.bound n := by
  rw [State.bound, grantHead_node]; split <;> rfl

@[simp] theorem grantHead_admission (i : EntryIx) (e : Entry) (s : State) :
    (grantHead i e s).admission = removed i s.admission := by simp [grantHead, queueLast]

@[simp] theorem grantHead_line (i : EntryIx) (e : Entry) (s : State) (l : LineIx) : (grantHead i e s).line l = s.line l := by
  simp [grantHead, queueLast]

@[simp] theorem grantHead_port (i : EntryIx) (e : Entry) (s : State) (p : Port) : (grantHead i e s).port p = s.port p := by
  simp [grantHead, queueLast]

@[simp] theorem grantHead_params (i : EntryIx) (e : Entry) (s : State) : (grantHead i e s).params = s.params :=
  (State.fixed_eq (grantHead_fixed i e s)).1

theorem grantHead_committedTotal {i : EntryIx} {e : Entry} {s : State} (he : s.entry i = some e) (hc : e.committed = 0) :
    (grantHead i e s).committedTotal = s.committedTotal + e.need := by
  have h := committedTotal_update (s := s) (u := grantHead i e s) (i := i) fun j hj => by
    rw [grantHead_entry, if_neg hj.symm]
  have hs : s.committedAt i = 0 := by simp [State.committedAt, he, hc]
  have hu : (grantHead i e s).committedAt i = e.need := by simp [State.committedAt, grantHead_entry, Entry.granted]
  omega

theorem grantHead_queueLaw {i : EntryIx} {e : Entry} {s : State} (hs : QueueLaw s) (he : s.entry i = some e)
    (hw : e.phase = .waiting) : QueueLaw (grantHead i e s) := by
  have hplace : s.placeOf i = some .admission := by simp [State.placeOf, he, Entry.place_eq_admission, hw]
  refine queueLaw_of_moves hs (List.nodup_singleton i) (fun j hj => ?_) fun pl q' hq' => ?_
  · simp [State.placeOf, grantHead_entry, show i ≠ j by simpa [eq_comm] using hj]
  have hmoved : (grantHead i e s).placeOf i = some (.issue e.node) := by simp [State.placeOf, grantHead_entry]
  simp only [filter_notMem_singleton, List.filter_singleton, hmoved]
  have hstays : ∀ q, s.queueAt pl = some q → pl ≠ .admission → removed i q = q := fun q hq hne =>
    removed_of_notMem (by rw [hs.mem_iff hq, hplace]; simpa using hne.symm)
  rcases pl with _ | n | p
  · exact ⟨s.admission, rfl, by simp_all [State.queueAt]⟩
  · rcases eq_or_ne e.node n with rfl | hn
    · obtain ⟨b, hb, rfl⟩ : ∃ b, s.bound e.node = some b ∧ b.issueQueue ++ [i] = q' := by
        simpa [State.queueAt, grantHead_bound] using hq'
      have hq : s.queueAt (.issue e.node) = some b.issueQueue := by simp [State.queueAt, hb]
      exact ⟨_, hq, by simp [hstays _ hq]⟩
    · have hq : s.queueAt (.issue n) = some q' := by simpa [State.queueAt, grantHead_bound, hn] using hq'
      exact ⟨q', hq, by simp [hstays _ hq, hn]⟩
  · have hq : s.queueAt (.completion p) = some q' := by simpa [State.queueAt] using hq'
    exact ⟨q', hq, by simp [hstays _ hq]⟩

/-! ## The test of the heads -/

/-- What every grant keeps, the test of the heads keeps. -/
theorem testHeads_induction {P : State → Prop}
    (hP : ∀ s i e, P s → s.admission.head? = some i → s.entry i = some e → e.phase = .waiting → fits s e.need = true →
      P (grantHead i e s)) :
    ∀ fuel s, P s → P (testHeads fuel s)
  | 0, _, hs => hs
  | fuel + 1, s, hs => by
    unfold testHeads
    split
    · exact hs
    · rename_i i rest hadm
      split
      · exact hs
      · rename_i e he
        split
        · rename_i h
          exact testHeads_induction hP fuel _ (hP s i e hs (by simp [hadm]) he h.1 h.2)
        · exact hs

theorem retest_induction {P : State → Prop} {after : State}
    (hP : ∀ s i e, P s → s.admission.head? = some i → s.entry i = some e → e.phase = .waiting → fits s e.need = true →
      P (grantHead i e s)) (before : State) (h : P after) : P (retest before after) := by
  unfold retest
  split
  · exact testHeads_induction hP _ _ h
  · exact h

@[simp] theorem retest_line (before after : State) (l : LineIx) : (retest before after).line l = after.line l :=
  retest_induction (P := fun u => u.line l = after.line l) (fun s i e hs _ _ _ _ => by rw [grantHead_line, hs]) before rfl

@[simp] theorem retest_port (before after : State) (p : Port) : (retest before after).port p = after.port p :=
  retest_induction (P := fun u => u.port p = after.port p) (fun s i e hs _ _ _ _ => by rw [grantHead_port, hs]) before rfl

theorem callsForTest_iff {before after : State} :
    callsForTest before after = true ↔
      after.committedTotal < before.committedTotal ∨ before.params.limit < after.params.limit ∨
        after.admission.head? ≠ before.admission.head? := by
  simp [callsForTest, or_assoc]

theorem retest_of_cause {before after : State}
    (h : after.committedTotal < before.committedTotal ∨ before.params.limit < after.params.limit ∨
      after.admission.head? ≠ before.admission.head?) :
    retest before after = testHeads after.admission.length after := if_pos (callsForTest_iff.mpr h)

theorem retest_of_no_cause {before after : State}
    (h : ¬(after.committedTotal < before.committedTotal ∨ before.params.limit < after.params.limit ∨
      after.admission.head? ≠ before.admission.head?)) : retest before after = after :=
  if_neg (by rwa [callsForTest_iff])

/-- The head of the admission queue is a WAITING entry. -/
theorem QueueLaw.head_waiting {s : State} (hs : QueueLaw s) {i : EntryIx} (hi : i ∈ s.admission) :
    ∃ e, s.entry i = some e ∧ e.phase = .waiting := by
  have h := (hs.mem_iff (pl := .admission) rfl i).mp hi
  obtain ⟨e, he, hp⟩ := State.placeOf_eq_some_iff.mp h
  exact ⟨e, he, Entry.place_eq_admission.mp hp⟩

theorem TableLaw.waiting_need {s : State} (hs : TableLaw s) {i : EntryIx} {e : Entry} (he : s.entry i = some e)
    (hw : e.phase = .waiting) : e.need = (e.length + 15) / 16 ∧ e.committed = 0 := by
  obtain ⟨-, -, -, -, hphase⟩ := hs.1 i e he
  simp only [Entry.phaseLaw, hw] at hphase
  obtain ⟨hk, hc, -, -⟩ := hphase
  exact ⟨by simp [Entry.need, hk, blocksFor], hc⟩

/-- A granted record is lawful when the WAITING one was (R9, R25). -/
theorem Entry.granted_lawful {e : Entry} (h : e.lawful) (hw : e.phase = .waiting) : e.granted.lawful := by
  obtain ⟨hr, hb, ht, hk, hp⟩ := h
  simp only [Entry.phaseLaw, hw] at hp
  exact ⟨hr, hb, ht, hk, rfl, hp.2.2.1, by simp [Entry.granted, hp.2.2.2], by simp [Entry.granted, hp.2.2.2]⟩

theorem grantHead_tableLaw {i : EntryIx} {e : Entry} {s : State} (hs : TableLaw s) (he : s.entry i = some e)
    (hw : e.phase = .waiting) : TableLaw (grantHead i e s) := by
  have hback : ∀ j f, (grantHead i e s).entry j = some f → ∃ g, s.entry j = some g ∧ f.port = g.port ∧ f.tag = g.tag ∧ (g.lawful → f.lawful) := by
    intro j f hf
    rw [grantHead_entry] at hf
    split at hf
    · rename_i hij; subst hij
      obtain rfl := Option.some.inj hf
      exact ⟨e, he, rfl, rfl, fun h => Entry.granted_lawful h hw⟩
    · exact ⟨f, hf, rfl, rfl, id⟩
  refine ⟨fun j f hf => ?_, fun j k f hf g hg hp ht => ?_⟩
  · obtain ⟨g, hg, -, -, hl⟩ := hback j f hf
    exact hl (hs.1 j g hg)
  · obtain ⟨f', hf', hfp, hft, -⟩ := hback j f hf
    obtain ⟨g', hg', hgp, hgt, -⟩ := hback k g hg
    exact hs.2 j k f' hf' g' hg' (by rw [← hfp, ← hgp, hp]) (by rw [← hft, ← hgt, ht])

/-- What the test of the heads comes to, when it has fuel for every entry of the queue: the first `k` entries are granted, and
the next does not fit (R31). -/
theorem testHeads_spec (fuel : Nat) : ∀ s : State, s.admission.length ≤ fuel → TableLaw s → QueueLaw s →
    s.committedTotal ≤ s.params.limit →
    ∃ k, (let u := testHeads fuel s
      u.admission = s.admission.drop k ∧
      (∀ i, u.entry i = if i ∈ s.admission.take k then (s.entry i).map Entry.granted else s.entry i) ∧
      (∀ n, u.node n =
        { s.node n with
          bound := (s.bound n).map fun b =>
            { b with issueQueue := b.issueQueue ++ (s.admission.take k).filter fun i => s.holds i fun e => e.node == n } }) ∧
      u.committedTotal ≤ u.params.limit ∧
      ∀ i ∈ u.admission.head?, ∀ e ∈ u.entry i, u.params.limit < u.committedTotal + e.need) := by
  have hstop : ∀ (s u : State), u = s → s.committedTotal ≤ s.params.limit →
      (∀ i ∈ s.admission.head?, ∀ e ∈ s.entry i, s.params.limit < s.committedTotal + e.need) →
      ∃ k, u.admission = s.admission.drop k ∧
        (∀ i, u.entry i = if i ∈ s.admission.take k then (s.entry i).map Entry.granted else s.entry i) ∧
        (∀ n, u.node n =
          { s.node n with
            bound := (s.bound n).map fun b =>
              { b with issueQueue := b.issueQueue ++ (s.admission.take k).filter fun i => s.holds i fun e => e.node == n } }) ∧
        u.committedTotal ≤ u.params.limit ∧
        ∀ i ∈ u.admission.head?, ∀ e ∈ u.entry i, u.params.limit < u.committedTotal + e.need := by
    rintro s _ rfl hc hh
    exact ⟨0, by simp, by simp, fun n => by simp [State.bound], hc, hh⟩
  induction fuel with
  | zero =>
    intro s hlen _ _ hc
    have hnil : s.admission = [] := List.length_eq_zero_iff.mp (by omega)
    exact hstop s _ rfl hc (by simp [hnil])
  | succ fuel ih =>
    intro s hlen ht hq hc
    dsimp only
    unfold testHeads
    split
    · rename_i hnil
      exact hstop s _ rfl hc (by simp [hnil])
    · rename_i i rest hadm
      obtain ⟨e, he, hw⟩ := hq.head_waiting (i := i) (by simp [hadm])
      obtain ⟨hneed, hcommitted⟩ := ht.waiting_need he hw
      simp only [he, hw, true_and]
      split
      · rename_i hfits
        have hnotin : i ∉ rest := (List.nodup_cons.mp (hadm ▸ hq.nodup (pl := .admission) rfl)).1
        have hrest : (grantHead i e s).admission = rest := by
          rw [grantHead_admission, hadm, ← removed_of_notMem hnotin]; simp [removed]
        obtain ⟨k, hku, hke, hkn, hkc, hkh⟩ := ih (grantHead i e s) (by rw [hrest]; simp [hadm] at hlen; omega)
          (grantHead_tableLaw ht he hw) (grantHead_queueLaw hq he hw)
          (by rw [grantHead_committedTotal he hcommitted, grantHead_params]; simpa [fits] using hfits)
        refine ⟨k + 1, by rw [hku, hrest, hadm, List.drop_succ_cons], fun j => ?_, fun n => ?_, hkc, hkh⟩
        · rw [hke, hrest, hadm, List.take_succ_cons, grantHead_entry]
          rcases eq_or_ne i j with rfl | hij
          · have : i ∉ rest.take k := fun h => hnotin (List.mem_of_mem_take h)
            simp [this, he]
          · simp [hij, hij.symm]
        · have hholds : (rest.take k).filter (fun j => (grantHead i e s).holds j fun e => e.node == n) =
              (rest.take k).filter fun j => s.holds j fun e => e.node == n :=
            List.filter_congr fun j hj => by
              have hij : i ≠ j := by rintro rfl; exact hnotin (List.mem_of_mem_take hj)
              simp [State.holds, grantHead_entry, hij]
          rw [hkn, hrest, hholds, hadm, List.take_succ_cons, grantHead_bound, grantHead_node]
          rcases eq_or_ne e.node n with hn | hn <;> simp [hn, State.holds, he, Function.comp_def]
      · rename_i hfits
        refine hstop s _ rfl hc fun j hj f hf => ?_
        obtain rfl : i = j := by simpa [hadm] using hj
        obtain rfl : e = f := by simpa [he] using hf
        simpa [fits] using hfits

/-- Settles O57: the cause decides whether the heads are tested, and the test comes to `testHeads_spec`. -/
theorem admissionTestsItsHeads : Obligations.AdmissionTestsItsHeads := by
  intro before after ht hq hc
  refine ⟨fun h1 h2 h3 => retest_of_no_cause (by rintro (h | h | h) <;> [omega; omega; exact h h3]), fun hcause => ?_⟩
  obtain ⟨k, hadm, hentry, hnode, hcommitted, hhead⟩ := testHeads_spec after.admission.length after le_rfl ht hq hc
  obtain ⟨hnow, hrstn, hpending⟩ := State.kept_eq (retest_kept before after)
  obtain ⟨hparams, hstamp, hbuffer⟩ := State.fixed_eq (retest_fixed before after)
  have hlines := State.lines_eq (retest_line before after)
  have hA := retest_port before after .a
  have hB := retest_port before after .b
  rw [← retest_of_cause hcause] at hadm hentry hnode hcommitted hhead
  have hwaiting : ∀ i ∈ after.admission, ∀ e ∈ after.entry i, e.phase = .waiting := fun i hi e he => by
    obtain ⟨f, hf, hw⟩ := hq.head_waiting hi
    obtain rfl : f = e := by simpa [hf] using he
    exact hw
  refine ⟨k, hadm, fun i hi e he => ?_, fun i hi => by rw [hentry, if_neg hi], fun n b hb => ?_, fun n hn => ?_, hcommitted,
    fun i hi e he => ?_, hlines, hA, hB, hparams, hbuffer, hstamp, hnow, hrstn, hpending⟩
  · have hneed := (ht.waiting_need he (hwaiting i (List.mem_of_mem_take hi) e he)).1
    rw [hentry, if_pos hi, Option.mem_def.mp he, Option.map_some, Entry.granted, hneed]
  · rw [hnode, hb]; rfl
  · rw [hnode, hn, Option.map_none, ← hn]; rfl
  · have hmem : i ∈ after.admission.drop k := List.mem_of_mem_head? (hadm ▸ hi)
    have hnottaken : i ∉ after.admission.take k := fun h =>
      (List.disjoint_take_drop (hq.nodup (pl := .admission) rfl) le_rfl) h hmem
    have he' : after.entry i = some e := by rw [hentry, if_neg hnottaken] at he; exact he
    rw [← (ht.waiting_need he' (hwaiting i (List.mem_of_mem_drop hmem) e he')).1]
    exact hhead i hi e he

end Sys2Proof.Machine
end

section
/-! PROOFS. A node leaves service: its open entries move to DONE in the order of R55, and its exchange is abandoned. -/

namespace Sys2Proof.Machine

theorem State.mem_entriesWhere {s : State} {f : Entry → Bool} {i : EntryIx} :
    i ∈ s.entriesWhere f ↔ ∃ e, s.entry i = some e ∧ f e = true := by
  simp [State.entriesWhere, State.holds_iff]

theorem State.nodup_entriesWhere (s : State) (f : Entry → Bool) : (s.entriesWhere f).Nodup :=
  (List.nodup_finRange 48).filter _

theorem State.mem_liveEntries {s : State} {n : NodeIx} {i : EntryIx} :
    i ∈ s.liveEntries n ↔ ∃ e, s.entry i = some e ∧ e.node = n ∧ e.phase.liveSeq.isSome = true := by
  simp [State.liveEntries, State.mem_entriesWhere]

theorem Phase.isOpen_of_liveSeq {r : Phase} (h : r.liveSeq.isSome = true) : r.isOpen = true := by
  cases r <;> simp_all

theorem Entry.place_of_liveSeq {e : Entry} (h : e.phase.liveSeq.isSome = true) : e.place = none := by
  unfold Entry.place; split <;> simp_all

/-! ## The open entries of a node -/

section
variable {s : State} {n : NodeIx} {b : BoundNode} (hs : QueueLaw s) (hb : s.bound n = some b)
include hs hb

theorem mem_issueQueue {i : EntryIx} : i ∈ b.issueQueue ↔ ∃ e, s.entry i = some e ∧ e.node = n ∧ e.phase = .ready := by
  rw [hs.mem_iff (pl := .issue n) (by simp [State.queueAt, hb])]
  simp [State.placeOf_eq_some_iff, Entry.place_eq_issue]

omit hb in
theorem mem_admission {i : EntryIx} : i ∈ s.admission ↔ ∃ e, s.entry i = some e ∧ e.phase = .waiting := by
  rw [hs.mem_iff (pl := .admission) rfl]
  simp [State.placeOf_eq_some_iff, Entry.place_eq_admission]

/-- The list of R55 names the open entries of the node. -/
theorem mem_openInOrder {i : EntryIx} :
    i ∈ openInOrder s n b ↔ ∃ e, s.entry i = some e ∧ e.node = n ∧ e.phase.isOpen = true := by
  simp only [openInOrder, List.mem_append, mem_byStamp, State.mem_liveEntries, State.mem_entriesWhere, mem_issueQueue hs hb,
    List.mem_filter, mem_admission hs, State.holds_iff]
  constructor
  · rintro (((⟨e, he, hn, hl⟩ | ⟨e, he, hf⟩) | ⟨e, he, hn, hp⟩) | ⟨⟨e, he, hp⟩, f, hf, hn⟩)
    · exact ⟨e, he, hn, Phase.isOpen_of_liveSeq hl⟩
    · simp only [Bool.and_eq_true, beq_iff_eq] at hf
      refine ⟨e, he, hf.1, ?_⟩
      cases hp : e.phase <;> simp_all
    · exact ⟨e, he, hn, by simp [hp]⟩
    · obtain rfl : e = f := by simpa [he] using hf
      exact ⟨e, he, by simpa using hn, by simp [hp]⟩
  · rintro ⟨e, he, hn, ho⟩
    cases hp : e.phase with
    | waiting => exact .inr ⟨⟨e, he, hp⟩, e, he, by simpa using hn⟩
    | ready => exact .inl (.inr ⟨e, he, hn, hp⟩)
    | issuing q => exact .inl (.inl (.inr ⟨e, he, by simp [hn, hp]⟩))
    | issued q d f a => exact .inl (.inl (.inl ⟨e, he, hn, by simp [hp]⟩))
    | part q d => exact .inl (.inl (.inl ⟨e, he, hn, by simp [hp]⟩))
    | done st x => simp [hp] at ho

/-- The list of R55 names no entry twice. -/
theorem nodup_openInOrder : (openInOrder s n b).Nodup := by
  have hq : s.queueAt (.issue n) = some b.issueQueue := by simp [State.queueAt, hb]
  have hlive : (s.byStamp (s.liveEntries n)).Nodup := (byStamp_perm s _).nodup_iff.mpr (s.nodup_entriesWhere _)
  have huniq : ∀ i e f, s.entry i = some e → s.entry i = some f → e = f := fun i e f he hf => by simpa [he] using hf
  simp only [openInOrder, List.nodup_append', List.disjoint_left, List.mem_append, mem_byStamp, State.mem_liveEntries,
    State.mem_entriesWhere, mem_issueQueue hs hb, List.mem_filter, mem_admission hs]
  refine ⟨⟨⟨hlive, s.nodup_entriesWhere _, ?_⟩, hs.nodup hq, ?_⟩, (hs.nodup (pl := .admission) rfl).filter _, ?_⟩
  · rintro i ⟨e, he, -, hl⟩ ⟨f, hf, hi⟩
    obtain rfl := huniq i e f he hf
    cases hp : e.phase <;> simp_all
  · rintro i (⟨e, he, -, hl⟩ | ⟨e, he, hi⟩) ⟨f, hf, -, hr⟩ <;> obtain rfl := huniq i e f he hf <;> simp_all
  · rintro i ((⟨e, he, -, hl⟩ | ⟨e, he, hi⟩) | ⟨e, he, -, hr⟩) ⟨⟨f, hf, hw⟩, -⟩ <;>
      obtain rfl := huniq i e f he hf <;> simp_all

theorem openInOrder_isOpen : ∀ i ∈ openInOrder s n b, ∃ e, s.entry i = some e ∧ e.phase.isOpen = true := fun i hi => by
  obtain ⟨e, he, -, ho⟩ := (mem_openInOrder hs hb).mp hi
  exact ⟨e, he, ho⟩

/-- Moving a node's open entries to DONE empties its issue queue. -/
theorem filter_issueQueue_openInOrder : b.issueQueue.filter (fun j => j ∉ openInOrder s n b) = [] := by
  refine List.filter_eq_nil_iff.mpr fun i hi => ?_
  obtain ⟨e, he, hn, hr⟩ := (mem_issueQueue hs hb).mp hi
  simpa using (mem_openInOrder hs hb).mpr ⟨e, he, hn, by simp [hr]⟩

/-- Moving a node's open entries to DONE leaves the issue queues of the other nodes. -/
theorem filter_otherQueue_openInOrder {m : NodeIx} (hm : m ≠ n) {c : BoundNode} (hc : s.bound m = some c) :
    c.issueQueue.filter (fun j => j ∉ openInOrder s n b) = c.issueQueue := by
  refine List.filter_eq_self.mpr fun i hi => ?_
  obtain ⟨e, he, hn, -⟩ := (mem_issueQueue hs hc).mp hi
  simp only [decide_eq_true_eq, mem_openInOrder hs hb, he, Option.some.injEq, not_exists, not_and]
  rintro f rfl hf
  exact absurd (hn.symm.trans hf) hm

theorem filter_admission_openInOrder :
    s.admission.filter (fun j => j ∉ openInOrder s n b) = s.admission.filter fun i => !s.holds i fun e => e.node == n := by
  refine List.filter_congr fun i hi => ?_
  obtain ⟨e, he, hw⟩ := (mem_admission hs).mp hi
  have : i ∈ openInOrder s n b ↔ e.node = n := by simp [mem_openInOrder hs hb, he, hw]
  by_cases hn : e.node = n <;> simp [this, State.holds, he, hn]

/-- The entries when a node leaves service. -/
theorem leaveService_entry (status : Status) (i : EntryIx) :
    (finishAll status (openInOrder s n b) s).entry i =
      (s.entry i).map fun e => if e.node = n then e.ended status s else e := by
  rw [finishAll_entry]
  cases he : s.entry i with
  | none => simp
  | some e =>
    have hmem : i ∈ openInOrder s n b ↔ e.node = n ∧ e.phase.isOpen = true := by simp [mem_openInOrder hs hb, he]
    by_cases hn : e.node = n <;> cases ho : e.phase.isOpen <;> simp [hmem, hn, ho, Entry.ended]

theorem leaveService_node {status : Status} (hst : status.delivers = false) (m : NodeIx) :
    (finishAll status (openInOrder s n b) s).node m =
      if m = n then { s.node n with bound := some { b with issueQueue := [] } } else s.node m := by
  rw [finishAll_node hs (nodup_openInOrder hs hb) (openInOrder_isOpen hs hb) hst]
  split
  · rename_i h; subst h
    rw [hb, Option.map_some, filter_issueQueue_openInOrder hs hb]
  · rename_i hm
    cases hc : s.bound m with
    | none => rw [Option.map_none, ← hc]; rfl
    | some c => rw [Option.map_some, filter_otherQueue_openInOrder hs hb hm hc, ← hc]; rfl

end

/-! ## The entry into OFFLINE -/

theorem goOffline_of_offline {s : State} {n : NodeIx} {b : BoundNode} (hb : s.bound n = some b) (h : b.health = .offline) :
    goOffline n s = s := by simp [goOffline, hb, h]

theorem goOffline_of_absent {s : State} {n : NodeIx} (hb : s.bound n = none) : goOffline n s = s := by simp [goOffline, hb]

section
variable {s : State} {n : NodeIx} {b : BoundNode} (hs : QueueLaw s) (hb : s.bound n = some b) (hh : b.health ≠ .offline)
include hs hb hh

omit hs in
theorem goOffline_eq :
    goOffline n s = raiseBoth .nodeChange (abandonExchanges (fun x => x.node == n)
      ((finishAll .nodeOffline (openInOrder s n b) s).modBound n BoundNode.offlined)) := by
  simp [goOffline, hb, hh]

theorem goOffline_entry (i : EntryIx) :
    (goOffline n s).entry i = (s.entry i).map fun e => if e.node = n then e.ended .nodeOffline s else e := by
  rw [goOffline_eq hb hh, ← leaveService_entry hs hb]; simp

theorem goOffline_node (m : NodeIx) :
    (goOffline n s).node m = if m = n then { s.node n with bound := some b.offlined } else s.node m := by
  rw [goOffline_eq hb hh, raiseBoth_node, abandonExchanges_node, State.modBound_node, State.bound,
    leaveService_node hs hb rfl, leaveService_node hs hb rfl, if_pos rfl]
  rcases eq_or_ne n m with rfl | hm
  · simp [BoundNode.offlined]
  · rw [if_neg hm, if_neg hm.symm, if_neg hm.symm]

theorem goOffline_bound (m : NodeIx) : (goOffline n s).bound m = if m = n then some b.offlined else s.bound m := by
  rw [State.bound, goOffline_node hs hb hh]; split <;> rfl

theorem goOffline_port (p : Port) :
    (goOffline n s).port p = PortRec.raise .nodeChange
      { s.port p with
        completion := (s.port p).completion ++ (openInOrder s n b).filter fun i => s.holds i fun e => e.port == p } := by
  rw [goOffline_eq hb hh, raiseBoth_port, abandonExchanges_port, State.modBound_port,
    finishAll_port hs (nodup_openInOrder hs hb) (openInOrder_isOpen hs hb)]

theorem goOffline_admission :
    (goOffline n s).admission = s.admission.filter fun i => !s.holds i fun e => e.node == n := by
  rw [goOffline_eq hb hh, raiseBoth_admission, abandonExchanges_admission, State.modBound_admission,
    finishAll_admission hs (nodup_openInOrder hs hb) (openInOrder_isOpen hs hb), filter_admission_openInOrder hs hb]

omit hs in
theorem goOffline_line (l : LineIx) :
    (goOffline n s).line l = { s.line l with state := (s.line l).state.abandonIf fun x => x.node == n } := by
  rw [goOffline_eq hb hh, raiseBoth_line, abandonExchanges_line]; simp

end

theorem LineState.abandonIf_node (n : NodeIx) (r : LineState) :
    r.abandonIf (fun x => x.node == n) =
      match r with
      | .exchanging pend x => .exchanging pend { x with abandoned := x.abandoned || x.node == n }
      | other => other := by
  cases r with
  | disabled => rfl
  | idle => rfl
  | exchanging pend x =>
    cases h : x.node == n with
    | true => simp [LineState.abandonIf, h]
    | false => simp only [LineState.abandonIf, h, Bool.false_eq_true, if_false, Bool.or_false]

/-- One entry at most is ISSUING at a node (R10). -/
theorem issuing_length_le {s : State} (hs : SeqLaw s) (n : NodeIx) :
    (s.entriesWhere fun e => e.node == n && e.phase.issuingSeq.isSome).length ≤ 1 := by
  have hnd := s.nodup_entriesWhere fun e => e.node == n && e.phase.issuingSeq.isSome
  have hmem := fun i => State.mem_entriesWhere (s := s) (f := fun e => e.node == n && e.phase.issuingSeq.isSome) (i := i)
  match hlist : s.entriesWhere fun e => e.node == n && e.phase.issuingSeq.isSome with
  | [] => simp
  | [_] => simp
  | i :: j :: rest =>
    rw [hlist] at hnd hmem
    obtain ⟨e, he, hie⟩ := (hmem i).mp (by simp)
    obtain ⟨f, hf, hjf⟩ := (hmem j).mp (by simp)
    simp only [Bool.and_eq_true, beq_iff_eq] at hie hjf
    have hij := hs.2.2 i j e he f hf hie.2 hjf.2 (hie.1.trans hjf.1.symm)
    simp [hij] at hnd

/-- Settles O58: the rules of the entry into OFFLINE, the list of R55 cut into its parts. -/
theorem offlineEntryEndsTheEntries : Obligations.OfflineEntryEndsTheEntries := by
  intro n b s hq _ _ hseq hb hh
  obtain ⟨hnow, hrstn, hpending⟩ := State.kept_eq (goOffline_kept n s)
  obtain ⟨hparams, hstamp, hbuffer⟩ := State.fixed_eq (goOffline_fixed n s)
  refine ⟨fun i e he hn hd => ?_, fun i h => ?_,
    ⟨s.byStamp (s.liveEntries n), s.entriesWhere fun e => e.node == n && e.phase.issuingSeq.isSome, _, fun i => ?_, ?_,
      byStamp_pairwise s _, fun i => ?_, issuing_length_le hseq n, rfl, fun p => ?_⟩, ?_, fun m hm => ?_,
    goOffline_admission hq hb hh, fun l => ?_, hparams, hbuffer, hstamp, hnow, hrstn, hpending⟩
  · have ho := Phase.isDone_eq_false_iff.mp hd
    rw [goOffline_entry hq hb hh, he, Option.map_some, if_pos hn]
    simp [Entry.ended, ho, Entry.finished, Status.delivers, holdEnd, millis, Nat.mul_comm]
  · rw [goOffline_entry hq hb hh]
    cases he : s.entry i with
    | none => rfl
    | some e =>
      by_cases hn : e.node = n
      · have ho := Phase.isOpen_eq_false_iff.mpr (h e he hn)
        simp [hn, Entry.ended, ho]
      · simp [hn]
  · simp [State.mem_liveEntries]
  · exact (byStamp_perm s _).nodup_iff.mpr (s.nodup_entriesWhere _)
  · simp [State.mem_entriesWhere]
  · rw [goOffline_port hq hb hh]; rfl
  · rw [goOffline_node hq hb hh, if_pos rfl]; rfl
  · rw [goOffline_node hq hb hh, if_neg hm]
  · exact (goOffline_line hb hh l).trans (congrArg (fun r => ({ s.line l with state := r } : LineRec)) (LineState.abandonIf_node n _))

/-- The entry into OFFLINE keeps the law on queue membership. -/
theorem goOffline_queueLaw {s : State} (hs : QueueLaw s) (n : NodeIx) : QueueLaw (goOffline n s) := by
  cases hb : s.bound n with
  | none => rwa [goOffline_of_absent hb]
  | some b =>
    by_cases hh : b.health = .offline
    · rwa [goOffline_of_offline hb hh]
    · have hfin := finishAll_queueLaw hs .nodeOffline (openInOrder s n b)
      have hn := leaveService_node hs hb (status := .nodeOffline) rfl
      rw [queueLaw_iff] at hfin ⊢
      have hplace : ∀ i, (goOffline n s).placeOf i = (finishAll .nodeOffline (openInOrder s n b) s).placeOf i := fun i => by
        simp [State.placeOf, goOffline_eq hb hh]
      intro pl q hq
      simp only [hplace]
      refine hfin pl q ?_
      rcases pl with _ | m | p
      · simpa [State.queueAt, goOffline_eq hb hh] using hq
      · simp only [State.queueAt, goOffline_bound hs hb hh] at hq
        simp only [State.queueAt, State.bound, hn]
        split <;> simp_all [BoundNode.offlined, State.bound]
      · simpa [State.queueAt, goOffline_eq hb hh, raiseBoth_port, PortRec.raise] using hq

end Sys2Proof.Machine
end

section
/-! PROOFS. The end of an exchange at its line (R72, R77, R89): a line released, and the nodes of a disabled line. -/

namespace Sys2Proof.Machine

/-! ## The nodes of a disabled line -/

/-- The node found at a position is bound there. -/
theorem State.nodeAt_bound {s : State} {l : LineIx} {d : DropIx} {n : NodeIx} (h : s.nodeAt l d = some n) :
    ∃ b, s.bound n = some b ∧ b.line = l ∧ b.drop = d := by
  have := List.find?_some h
  simpa [Option.any_eq_true] using this

/-- A node bound at a position that no other holds is found there. -/
theorem State.nodeAt_of_bound {s : State} {n : NodeIx} {b : BoundNode} (hb : s.bound n = some b)
    (huniq : ∀ m c, s.bound m = some c → c.line = b.line → c.drop = b.drop → m = n) :
    s.nodeAt b.line b.drop = some n := by
  cases h : s.nodeAt b.line b.drop with
  | none =>
    have := List.find?_eq_none.mp h n (List.mem_finRange n)
    simp [hb] at this
  | some m =>
    obtain ⟨c, hc, hl, hd⟩ := State.nodeAt_bound h
    rw [huniq m c hc hl hd]

/-- One node after the other, by drop, enters OFFLINE. -/
def offlineAt (l : LineIx) (s : State) (d : DropIx) : State :=
  match s.nodeAt l d with
  | some n => goOffline n s
  | none => s

theorem disableNodes_eq (l : LineIx) (s : State) : disableNodes l s = allDrops.foldl (offlineAt l) s := rfl

/-- What the entry into OFFLINE of a node of the line keeps, the disabling of the line keeps. -/
theorem offlineAt_foldl_induction {P : State → Prop} {l : LineIx}
    (hP : ∀ s n b, P s → s.bound n = some b → b.line = l → P (goOffline n s)) (ds : List DropIx) (s : State) (hs : P s) :
    P (ds.foldl (offlineAt l) s) := by
  induction ds generalizing s with
  | nil => exact hs
  | cons d rest ih =>
    refine ih _ ?_
    unfold offlineAt
    split
    · rename_i n h
      obtain ⟨b, hb, hl, -⟩ := State.nodeAt_bound h
      exact hP s n b hs hb hl
    · exact hs

theorem disableNodes_induction {P : State → Prop} {l : LineIx} {s : State}
    (hP : ∀ s n b, P s → s.bound n = some b → b.line = l → P (goOffline n s)) (hs : P s) : P (disableNodes l s) :=
  offlineAt_foldl_induction hP allDrops s hs

/-- The open entries of the part stand at nodes that are not OFFLINE (R69). -/
def OpenServed (s : State) : Prop :=
  ∀ i e, s.entry i = some e → e.phase.isOpen = true → ∃ b, s.bound e.node = some b ∧ b.health ≠ .offline

theorem NodeLaw.openServed {s : State} (h : NodeLaw s) : OpenServed s := fun i e he ho => h.2.2.1 i e he ho

/-- The rules of the entry into OFFLINE for whatever node: in each record, nothing or the move of R55. -/
theorem goOffline_bound_cases {s : State} (hs : QueueLaw s) (n m : NodeIx) :
    (goOffline n s).bound m = s.bound m ∨
      m = n ∧ ∃ b, s.bound n = some b ∧ b.health ≠ .offline ∧ (goOffline n s).bound n = some b.offlined := by
  cases hb : s.bound n with
  | none => exact .inl (by rw [goOffline_of_absent hb])
  | some b =>
    by_cases hh : b.health = .offline
    · exact .inl (by rw [goOffline_of_offline hb hh])
    · rcases eq_or_ne m n with rfl | hm
      · exact .inr ⟨rfl, b, rfl, hh, by rw [goOffline_bound hs hb hh, if_pos rfl]⟩
      · exact .inl (by rw [goOffline_bound hs hb hh, if_neg hm])

/-- The position and presence of every node is as it was when a node enters OFFLINE. -/
theorem goOffline_position {s : State} (hs : QueueLaw s) (n m : NodeIx) :
    ((goOffline n s).bound m).map (fun b => (b.line, b.drop)) = (s.bound m).map fun b => (b.line, b.drop) := by
  rcases goOffline_bound_cases hs n m with h | ⟨rfl, b, hb, -, h⟩
  · rw [h]
  · rw [h, hb]; rfl

/-- A node that is OFFLINE stays so. -/
theorem goOffline_keeps_offline {s : State} (hs : QueueLaw s) (n : NodeIx) {m : NodeIx}
    (h : ∃ c, s.bound m = some c ∧ c.health = .offline) :
    ∃ c, (goOffline n s).bound m = some c ∧ c.health = .offline := by
  rcases goOffline_bound_cases hs n m with hsame | ⟨rfl, b, hb, -, hnew⟩
  · rwa [hsame]
  · exact ⟨_, hnew, rfl⟩

theorem goOffline_makes_offline {s : State} (hs : QueueLaw s) {n : NodeIx} {b : BoundNode} (hb : s.bound n = some b) :
    ∃ c, (goOffline n s).bound n = some c ∧ c.health = .offline := by
  by_cases hh : b.health = .offline
  · exact ⟨b, by rw [goOffline_of_offline hb hh]; exact hb, hh⟩
  · exact ⟨_, by rw [goOffline_bound hs hb hh, if_pos rfl], rfl⟩

theorem goOffline_openServed {s : State} (hs : QueueLaw s) (ho : OpenServed s) (n : NodeIx) : OpenServed (goOffline n s) := by
  cases hb : s.bound n with
  | none => rwa [goOffline_of_absent hb]
  | some b =>
    by_cases hh : b.health = .offline
    · rwa [goOffline_of_offline hb hh]
    · intro i e he hopen
      rw [goOffline_entry hs hb hh] at he
      obtain ⟨f, hf, rfl⟩ := Option.map_eq_some_iff.mp he
      by_cases hn : f.node = n
      · cases h : f.phase.isOpen <;> simp [hn, Entry.ended, h] at hopen
      · simp only [hn, if_false] at hopen ⊢
        rw [goOffline_bound hs hb hh, if_neg hn]
        exact ho i f hf hopen

/-- What stands between a part and the same part with nodes of line `l` OFFLINE: the other nodes and their entries are as they
were, every node keeps its position, and an entry that has moved is DONE with NODE_OFFLINE. -/
structure OffLine (l : LineIx) (s u : State) : Prop where
  queue : QueueLaw u
  served : OpenServed u
  position : ∀ m, (u.bound m).map (fun b => (b.line, b.drop)) = (s.bound m).map fun b => (b.line, b.drop)
  other : ∀ m, (∀ b, s.bound m = some b → b.line ≠ l) → u.node m = s.node m
  entry : ∀ i e, s.entry i = some e → u.entry i = some e ∨
    e.phase.isOpen = true ∧ (∃ b, s.bound e.node = some b ∧ b.line = l) ∧
      ∃ c x, u.entry i = some c ∧ c.phase = .done .nodeOffline x

theorem OffLine.refl {l : LineIx} {s : State} (hq : QueueLaw s) (ho : OpenServed s) : OffLine l s s :=
  ⟨hq, ho, fun _ => rfl, fun _ _ => rfl, fun _ _ h => .inl h⟩

theorem OffLine.step {l : LineIx} {s u : State} (h : OffLine l s u) {n : NodeIx} {b : BoundNode} (hb : u.bound n = some b)
    (hl : b.line = l) : OffLine l s (goOffline n u) := by
  have hpos : ∃ b, s.bound n = some b ∧ b.line = l := by
    have hp := h.position n
    rw [hb, Option.map_some, eq_comm, Option.map_eq_some_iff] at hp
    obtain ⟨c, hc, heq⟩ := hp
    exact ⟨c, hc, (congrArg Prod.fst heq).trans hl⟩
  by_cases hh : b.health = .offline
  · rwa [goOffline_of_offline hb hh]
  · refine ⟨goOffline_queueLaw h.queue n, goOffline_openServed h.queue h.served n,
      fun m => (goOffline_position h.queue n m).trans (h.position m), fun m hm => ?_, fun i e he => ?_⟩
    · have hmn : m ≠ n := by
        rintro rfl
        obtain ⟨c, hc, hcl⟩ := hpos
        exact hm c hc hcl
      rw [goOffline_node h.queue hb hh, if_neg hmn, h.other m hm]
    · rcases h.entry i e he with hsame | ⟨ho, hat, c, x, hc, hd⟩
      · by_cases hen : e.node = n
        · cases ho : e.phase.isOpen with
          | false => exact .inl (by rw [goOffline_entry h.queue hb hh, hsame]; simp [Entry.ended, ho])
          | true =>
            refine .inr ⟨rfl, by rw [hen]; exact hpos, e.ended .nodeOffline u, holdEnd u e.port, ?_, ?_⟩
            · rw [goOffline_entry h.queue hb hh, hsame]; simp [hen]
            · simp [Entry.ended, ho]
        · exact .inl (by rw [goOffline_entry h.queue hb hh, hsame]; simp [hen])
      · refine .inr ⟨ho, hat, c, x, ?_, hd⟩
        rw [goOffline_entry h.queue hb hh, hc]
        simp [Entry.ended, hd]

theorem disableNodes_offLine {l : LineIx} {s : State} (hq : QueueLaw s) (ho : OpenServed s) :
    OffLine l s (disableNodes l s) :=
  disableNodes_induction (fun _ _ _ h hb hl => h.step hb hl) (OffLine.refl hq ho)

/-- A node of the line is OFFLINE once its drop has been taken. -/
theorem offlineAt_foldl_offline {l : LineIx} (ds : List DropIx) (s : State) (hq : QueueLaw s)
    (huniq : ∀ n m b c, s.bound n = some b → s.bound m = some c → b.line = c.line → b.drop = c.drop → n = m)
    {n : NodeIx} {b : BoundNode} (hb : s.bound n = some b) (hl : b.line = l) (hd : b.drop ∈ ds) :
    ∃ c, (ds.foldl (offlineAt l) s).bound n = some c ∧ c.health = .offline := by
  have hstays : ∀ (ds : List DropIx) (s : State), QueueLaw s → (∃ c, s.bound n = some c ∧ c.health = .offline) →
      ∃ c, (ds.foldl (offlineAt l) s).bound n = some c ∧ c.health = .offline := fun ds s hq h =>
    (offlineAt_foldl_induction (P := fun u => QueueLaw u ∧ ∃ c, u.bound n = some c ∧ c.health = .offline)
      (fun u m _ hu _ _ => ⟨goOffline_queueLaw hu.1 m, goOffline_keeps_offline hu.1 m hu.2⟩) ds s ⟨hq, h⟩).2
  induction ds generalizing s b with
  | nil => simp at hd
  | cons d rest ih =>
    have hqd : QueueLaw (offlineAt l s d) := by unfold offlineAt; split; exacts [goOffline_queueLaw hq _, hq]
    rw [List.foldl_cons]
    by_cases hhere : b.drop = d
    · refine hstays rest _ hqd ?_
      have hat : s.nodeAt l d = some n := by
        rw [← hl, ← hhere]
        exact State.nodeAt_of_bound hb fun m c hc hcl hcd => (huniq m n c b hc hb hcl hcd)
      simp only [offlineAt, hat]
      exact goOffline_makes_offline hq hb
    · have hposd : ∀ m, ((offlineAt l s d).bound m).map (fun b => (b.line, b.drop)) = (s.bound m).map fun b => (b.line, b.drop) := by
        intro m; unfold offlineAt; split
        · exact goOffline_position hq _ m
        · rfl
      have hback : ∀ m c, (offlineAt l s d).bound m = some c → ∃ b, s.bound m = some b ∧ b.line = c.line ∧ b.drop = c.drop := by
        intro m c hc
        have := hposd m
        rw [hc, Option.map_some, eq_comm, Option.map_eq_some_iff] at this
        obtain ⟨b, hb, heq⟩ := this
        exact ⟨b, hb, congrArg Prod.fst heq, congrArg Prod.snd heq⟩
      obtain ⟨c, hc, heq⟩ : ∃ c, (offlineAt l s d).bound n = some c ∧ (c.line, c.drop) = (b.line, b.drop) := by
        have := hposd n
        rw [hb, Option.map_some, Option.map_eq_some_iff] at this
        exact this
      obtain ⟨hcl, hcd⟩ := Prod.mk.inj heq
      refine ih (offlineAt l s d) hqd (fun m k f g hf hg hfl hfd => ?_) hc (hcl.trans hl) ?_
      · obtain ⟨f', hf', h1, h2⟩ := hback m f hf
        obtain ⟨g', hg', h3, h4⟩ := hback k g hg
        exact huniq m k f' g' hf' hg' (by rw [h1, h3, hfl]) (by rw [h2, h4, hfd])
      · rw [hcd]; exact (List.mem_cons.mp hd).resolve_left hhere

/-- Every node of a disabled line is OFFLINE (R89). -/
theorem disableNodes_offline {l : LineIx} {s : State} (hq : QueueLaw s)
    (huniq : ∀ n m b c, s.bound n = some b → s.bound m = some c → b.line = c.line → b.drop = c.drop → n = m)
    {n : NodeIx} {b : BoundNode} (hb : s.bound n = some b) (hl : b.line = l) :
    ∃ c, (disableNodes l s).bound n = some c ∧ c.health = .offline :=
  offlineAt_foldl_offline allDrops s hq huniq hb hl (List.mem_finRange _)

theorem goOffline_line_cases (n : NodeIx) (s : State) (l : LineIx) :
    (goOffline n s).line l = s.line l ∨
      (goOffline n s).line l = { s.line l with state := (s.line l).state.abandonIf fun x => x.node == n } := by
  cases hb : s.bound n with
  | none => exact .inl (by rw [goOffline_of_absent hb])
  | some b =>
    by_cases hh : b.health = .offline
    · exact .inl (by rw [goOffline_of_offline hb hh])
    · exact .inr (goOffline_line hb hh l)

/-- A line without an exchange keeps its record when nodes enter OFFLINE. -/
theorem disableNodes_line {l k : LineIx} {s : State} (h : (s.line k).state = .disabled ∨ (s.line k).state = .idle) :
    (disableNodes l s).line k = s.line k := by
  refine disableNodes_induction (P := fun u => u.line k = s.line k) (fun u n b hu _ _ => ?_) rfl
  rcases goOffline_line_cases n u k with hsame | hsame
  · rw [hsame, hu]
  · rw [hsame, hu]
    cases hr : s.line k
    rcases h with h | h <;> rw [hr] at h <;> simp_all [LineState.abandonIf]

/-! ## Release -/

theorem releaseLine_idle {l : LineIx} {x : Exchange} {s : State} (h : (s.line l).state = .exchanging false x) :
    releaseLine l s = s.modLine l fun r => { r with state := .idle } := by simp [releaseLine, h]

theorem releaseLine_disabled {l : LineIx} {x : Exchange} {s : State} (h : (s.line l).state = .exchanging true x) :
    releaseLine l s = disableNodes l (s.modLine l fun r => { r with state := .disabled }) := by simp [releaseLine, h]

theorem modLine_queueLaw {s : State} (h : QueueLaw s) (l : LineIx) (f : LineRec → LineRec) : QueueLaw (s.modLine l f) := h

/-- Settles O59: a line released is IDLE, or the nodes of the line enter OFFLINE by `OffLine`. -/
theorem releasedLineIsIdleOrDisabled : Obligations.ReleasedLineIsIdleOrDisabled := by
  intro l x s hq _ hn _
  refine ⟨releaseLine_idle, fun h => ?_⟩
  have hq' : QueueLaw (s.modLine l fun r => { r with state := .disabled }) := modLine_queueLaw hq l _
  have hoff := disableNodes_offLine (l := l) hq' hn.openServed
  have huniq : ∀ n m b c, s.bound n = some b → s.bound m = some c → b.line = c.line → b.drop = c.drop → n = m :=
    fun n m b c hb hc => hn.2.1 n m b hb c hc
  rw [releaseLine_disabled h]
  refine ⟨rfl, fun n b hb hoffline => goOffline_of_offline hb hoffline, ?_, fun n b hb hl => ?_, fun n b hb hl => ?_,
    fun i e he hor => ?_, fun i e he hd hat => ?_⟩
  · rw [disableNodes_line (by simp [State.modLine_line]), State.modLine_line, if_pos rfl]
  · exact disableNodes_offline hq' huniq (b := b) hb hl
  · exact hoff.other n fun c hc => by
      obtain rfl : b = c := Option.some.inj (hb.symm.trans hc)
      exact hl
  · rcases hoff.entry i e he with hsame | ⟨ho, ⟨c, hc, hcl⟩, -⟩
    · exact hsame.trans he.symm
    · rcases hor with hdone | ⟨b, hb, hbl⟩
      · rw [← Phase.isOpen_eq_false_iff, ho] at hdone; simp at hdone
      · obtain rfl : b = c := Option.some.inj (Eq.trans (Eq.symm hb) hc)
        exact absurd hcl hbl
  · obtain ⟨b, hb, hbl⟩ := hat
    rcases hoff.entry i e he with hsame | ⟨-, -, c, expiry, hc, hp⟩
    · obtain ⟨c, hc, hch⟩ := hoff.served i e hsame (Phase.isDone_eq_false_iff.mp hd)
      obtain ⟨c', hc', hoffline⟩ := disableNodes_offline hq' huniq (b := b) hb hbl
      obtain rfl := Option.some.inj (hc.symm.trans hc')
      exact absurd hoffline hch
    · exact ⟨c, expiry, hc, hp⟩

end Sys2Proof.Machine
end

section
/-! PROOFS. The latency sample, the estimate and the spread, and the deadline length (Chapter 5). -/

namespace Sys2Proof.Machine

/-- Truncation toward zero of a difference between naturals, by the sign of the difference. -/
theorem tdiv_eq_ite (a k : Int) : a.tdiv k = if 0 ≤ a then a / k else -((-a) / k) := by
  split
  · exact Int.tdiv_eq_ediv_of_nonneg ‹_›
  · rw [← Int.tdiv_eq_ediv_of_nonneg (by omega), Int.neg_tdiv, neg_neg]

theorem sampleTicks_eq (accepted now : Time) : sampleTicks accepted now = min ((now - accepted) / 10) 4095 := rfl

/-- R94: the estimate moves by an eighth of its distance from the sample, and stays between them. -/
theorem nextE_eq (e sample : Nat) :
    (nextE e sample : Int) = e + ((sample : Int) - e).tdiv 8 ∧ nextE e sample ≤ max e sample := by
  have h := tdiv_eq_ite ((sample : Int) - e) 8
  unfold nextE
  split at h <;> omega

/-- R94: the spread moves by a quarter of the rest. -/
theorem nextS_eq (e s sample : Nat) :
    (nextS e s sample : Int) = s + (|(sample : Int) - e| - s).tdiv 4 ∧ nextS e s sample ≤ max s (max e sample) := by
  have h := tdiv_eq_ite ((((sample : Int) - e).natAbs : Int) - s) 4
  have habs : |(sample : Int) - e| = (((sample : Int) - e).natAbs : Int) := Int.abs_eq_natAbs _
  unfold nextS
  rw [habs]
  split at h <;> omega

theorem takeSample_eq {n : NodeIx} {accepted : Time} {b : BoundNode} {s : State} (hb : s.bound n = some b) :
    takeSample n accepted s =
      writeEstimate n (nextE b.e (sampleTicks accepted s.now)) (nextS b.e b.s (sampleTicks accepted s.now)) s := by
  simp [takeSample, hb]

theorem writeEstimate_eq {n : NodeIx} {e spread : Nat} {b : BoundNode} {s : State} (hb : s.bound n = some b) :
    writeEstimate n e spread s =
      (let r := s.node n
      let above : Bool := r.params.slowCeiling < e
      let written := s.setNode n { r with slow := above, bound := some { b with e := e, s := spread } }
      if above && !r.slow then raiseBoth .nodeSlow written else written) := by
  have h : (s.node n).bound = some b := hb
  simp only [writeEstimate, State.modNode, h, Option.map_some]

theorem deadlineTicks_eq {n : NodeIx} {b : BoundNode} {s : State} (hb : s.bound n = some b) (hd : s.params.dmin ≤ s.params.dmax) :
    deadlineTicks s n =
      if (s.node n).params.mode = .fixed then (s.node n).params.fixedDeadline
      else max s.params.dmin (min s.params.dmax (b.e + 4 * b.s + s.params.guard)) := by
  have h : (s.node n).bound = some b := hb
  cases hm : (s.node n).params.mode <;> simp [deadlineTicks, hm, h, clamp_eq hd]

/-- Settles O60: the arithmetic of R94 stays within its ranges, and the deadline length is a clamped sum. -/
theorem latencyFollowsTheSamples : Obligations.LatencyFollowsTheSamples := by
  intro n accepted b s hn hp hb
  obtain ⟨he, hs, -⟩ := (hn.1 n).2 b hb
  have hdmin : s.params.dmin ≤ s.params.dmax := by obtain ⟨⟨-, -, -, -, -, h, -⟩, -⟩ := hp; exact h
  have hsample : sampleTicks accepted s.now ≤ 4095 := by rw [sampleTicks_eq]; omega
  obtain ⟨hE, hEle⟩ := nextE_eq b.e (sampleTicks accepted s.now)
  obtain ⟨hS, hSle⟩ := nextS_eq b.e b.s (sampleTicks accepted s.now)
  exact ⟨⟨_, _, ⟨hE, hS⟩, by omega, by omega, by rw [takeSample_eq hb, writeEstimate_eq hb]⟩, deadlineTicks_eq hb hdmin⟩

end Sys2Proof.Machine
end

section
/-! PROOFS. What an operation of the part may do without breaking a law: `Moves` says it of the records, the nodes and the
ports together, once for all the operations that only move entries on, free them, count and raise events. -/

namespace Sys2Proof.Machine

/-! ## Records -/

/-- The blocks of an entry are no more than its commitment, once it holds any (R25, R37). -/
theorem Entry.lawful.blocks_le {e : Entry} (h : e.lawful) : e.blocks.length ≤ e.committed := by
  obtain ⟨hr, hb, -, hk, hp⟩ := h
  have hle : (e.received + 15) / 16 ≤ (e.length + 15) / 16 := Nat.div_le_div_right (by omega)
  rw [hb]
  cases hkind : e.kind <;> cases hphase : e.phase <;> simp_all [Entry.kindLaw, Entry.phaseLaw, Entry.need, blocksFor]

/-- A record that follows another when its entry is moved on: the same host, tag and node, and no new claim on a node or a
seq. -/
structure Entry.FollowedBy (e e' : Entry) : Prop where
  port : e'.port = e.port
  tag : e'.tag = e.tag
  node : e'.node = e.node
  lawful : e.lawful → e'.lawful
  isOpen : e'.phase.isOpen = true → e.phase.isOpen = true
  live : ∀ q, e'.phase.liveSeq = some q → e.phase.liveSeq = some q
  issuing : ∀ q, e'.phase.issuingSeq = some q → e.phase.issuingSeq = some q

/-- A record that follows another and takes nothing more than it: no new blocks, no more commitment, and no place in the
admission queue. -/
structure Entry.DescendsTo (e e' : Entry) : Prop extends Entry.FollowedBy e e' where
  blocks : e'.blocks = e.blocks ∨ e'.blocks = []
  committed : e.lawful → e'.committed ≤ e.committed
  waiting : e'.phase = .waiting → e' = e

theorem Entry.FollowedBy.refl (e : Entry) : e.FollowedBy e := ⟨rfl, rfl, rfl, id, id, fun _ => id, fun _ => id⟩

theorem Entry.FollowedBy.trans {e f g : Entry} (h : e.FollowedBy f) (k : f.FollowedBy g) : e.FollowedBy g :=
  ⟨k.port.trans h.port, k.tag.trans h.tag, k.node.trans h.node, k.lawful ∘ h.lawful, h.isOpen ∘ k.isOpen,
    fun q => h.live q ∘ k.live q, fun q => h.issuing q ∘ k.issuing q⟩

theorem Entry.DescendsTo.refl (e : Entry) : e.DescendsTo e := ⟨.refl e, .inl rfl, fun _ => le_rfl, fun _ => rfl⟩

theorem Entry.DescendsTo.trans {e f g : Entry} (h : e.DescendsTo f) (k : f.DescendsTo g) : e.DescendsTo g where
  toFollowedBy := h.toFollowedBy.trans k.toFollowedBy
  blocks := by
    rcases k.blocks with hk | hk
    · rcases h.blocks with hh | hh
      · exact .inl (hk.trans hh)
      · exact .inr (hk.trans hh)
    · exact .inr hk
  committed := fun hl => (k.committed (h.lawful hl)).trans (h.committed hl)
  waiting := fun hw => by
    obtain rfl := k.waiting hw
    exact h.waiting hw

theorem Entry.finished_lawful {e : Entry} (h : e.lawful) (status : Status) (expiry : Option Time) :
    (e.finished status expiry).lawful := by
  obtain ⟨hr, hb, ht, hk, -⟩ := h
  cases hd : status.delivers
  · simp only [Entry.finished, hd, Bool.false_eq_true, if_false]
    refine ⟨Nat.zero_le _, by simp [blocksFor], ht, ?_, rfl, fun _ => rfl⟩
    cases hkind : e.kind <;> simp_all [Entry.kindLaw]
  · simp only [Entry.finished, hd, if_true]
    refine ⟨hr, hb, ht, ?_, rfl, by simp [hd]⟩
    cases hkind : e.kind <;> simp_all [Entry.kindLaw]

theorem Entry.descendsTo_finished {e : Entry} (ho : e.phase.isOpen = true) (status : Status) (expiry : Option Time) :
    e.DescendsTo (e.finished status expiry) where
  port := Entry.finished_port ..
  tag := by unfold Entry.finished; split <;> rfl
  node := Entry.finished_node ..
  lawful := fun h => Entry.finished_lawful h status expiry
  blocks := by unfold Entry.finished; split <;> simp
  committed := fun h => by
    unfold Entry.finished; split
    · exact h.blocks_le
    · exact Nat.zero_le _
  waiting := by simp
  isOpen := fun _ => ho
  live := by simp
  issuing := by simp

/-- An entry out at its node: ISSUING, ISSUED or PARTIAL. -/
def Phase.atNode : Phase → Bool
  | .issuing _ | .issued .. | .part .. => true
  | .waiting | .ready | .done .. => false

theorem Phase.atNode_of_live {r : Phase} (h : r.liveSeq.isSome = true) : r.atNode = true := by
  cases r <;> simp_all [Phase.atNode]

theorem Phase.atNode_of_issuing {r : Phase} (h : r.issuingSeq.isSome = true) : r.atNode = true := by
  cases r <;> simp_all [Phase.atNode]

theorem Phase.isOpen_of_atNode {r : Phase} (h : r.atNode = true) : r.isOpen = true := by
  cases r <;> simp_all [Phase.atNode]

theorem Entry.place_of_atNode {e : Entry} (h : e.phase.atNode = true) : e.place = none := by
  unfold Entry.place; split <;> simp_all [Phase.atNode]

/-- The return to READY keeps a record lawful; a charged one needs a READ with a retry left (R13, R19). -/
theorem Entry.returned_lawful {e : Entry} (h : e.lawful) (ha : e.phase.atNode = true) {charged : Bool}
    (hc : charged = true → e.kind = .read ∧ e.retries < 3) : (e.returned charged).lawful := by
  obtain ⟨hr, hb, ht, hk, hp⟩ := h
  have hneed : e.committed = e.need ∧ e.flags.repeated = false := by
    cases hphase : e.phase <;> simp_all [Entry.phaseLaw, Phase.atNode]
  refine ⟨Nat.zero_le _, by simp [Entry.returned, blocksFor], ?_, ?_, ?_⟩
  · unfold Entry.returned; dsimp only; split
    · exact (hc ‹_›).2
    · exact ht
  · cases hkind : e.kind
    · simp_all [Entry.kindLaw, Entry.returned]
    · have : charged = false := by
        cases charged
        · rfl
        · simp [hkind] at hc
      simp_all [Entry.kindLaw, Entry.returned]
  · exact ⟨hneed.1, rfl, rfl, hneed.2⟩

theorem Entry.descendsTo_returned {e : Entry} (ha : e.phase.atNode = true) {charged : Bool}
    (hc : charged = true → e.kind = .read ∧ e.retries < 3) : e.DescendsTo (e.returned charged) where
  port := rfl
  tag := rfl
  node := rfl
  lawful := fun h => Entry.returned_lawful h ha hc
  blocks := .inr rfl
  committed := fun _ => le_rfl
  waiting := by simp [Entry.returned]
  isOpen := fun _ => Phase.isOpen_of_atNode ha
  live := by simp [Entry.returned]
  issuing := by simp [Entry.returned]

/-! ## Nodes -/

/-- The fields of a bound node that the laws of the lines and of the seqs read. -/
def BoundNode.outline (b : BoundNode) : (LineIx × DropIx × Health × Option Seq × Option Ack) × List Seq :=
  ((b.line, b.drop, b.health, b.issuingSeq, b.pendingAck), b.abandoned)

def State.outlineAt (s : State) (n : NodeIx) : Option ((LineIx × DropIx × Health × Option Seq × Option Ack) × List Seq) :=
  (s.bound n).map BoundNode.outline

/-- The fields of a bound node that the laws of the lines read. -/
def State.lineViewAt (s : State) (n : NodeIx) : Option (LineIx × DropIx × Health × Option Seq × Option Ack) :=
  (s.outlineAt n).map Prod.fst

/-- A bound node that stays where it is and as far in service as it was. -/
structure BoundNode.StepsTo (b b' : BoundNode) : Prop where
  line : b'.line = b.line
  drop : b'.drop = b.drop
  inService : b.health.inService = true → b'.health.inService = true
  onLine : b.health ≠ .offline → b'.health ≠ .offline
  lawful : b.lawful → b'.lawful

theorem BoundNode.StepsTo.refl (b : BoundNode) : b.StepsTo b := ⟨rfl, rfl, id, id, id⟩

theorem BoundNode.StepsTo.trans {b c d : BoundNode} (h : b.StepsTo c) (k : c.StepsTo d) : b.StepsTo d :=
  ⟨k.line.trans h.line, k.drop.trans h.drop, k.inService ∘ h.inService, k.onLine ∘ h.onLine, k.lawful ∘ h.lawful⟩

/-- A node record that keeps its parameters and its binding. -/
structure NodeRec.StepsTo (r r' : NodeRec) : Prop where
  params : r'.params = r.params
  counters : r.counters.lawful → r'.counters.lawful
  bound : Option.Rel BoundNode.StepsTo r.bound r'.bound

theorem optionRel_refl {α : Type} {R : α → α → Prop} (hR : ∀ a, R a a) : ∀ o : Option α, Option.Rel R o o
  | none => .none
  | some a => .some (hR a)

theorem optionRel_trans {α : Type} {R : α → α → Prop} (hR : ∀ {a b c}, R a b → R b c → R a c) :
    ∀ {o p q : Option α}, Option.Rel R o p → Option.Rel R p q → Option.Rel R o q
  | _, _, _, .none, .none => .none
  | _, _, _, .some h, .some k => .some (hR h k)

theorem NodeRec.StepsTo.refl (r : NodeRec) : r.StepsTo r := ⟨rfl, id, optionRel_refl BoundNode.StepsTo.refl _⟩

theorem NodeRec.StepsTo.trans {r r' r'' : NodeRec} (h : r.StepsTo r') (k : r'.StepsTo r'') : r.StepsTo r'' :=
  ⟨k.params.trans h.params, k.counters ∘ h.counters, optionRel_trans (R := BoundNode.StepsTo) (fun h k => h.trans k) h.bound k.bound⟩

/-- A change of the bound fields of a record. -/
theorem NodeRec.stepsTo_map {r : NodeRec} {f : BoundNode → BoundNode} (h : ∀ b, r.bound = some b → b.StepsTo (f b)) :
    r.StepsTo { r with bound := r.bound.map f } := by
  refine ⟨rfl, id, ?_⟩
  cases hb : r.bound with
  | none => exact .none
  | some b => exact .some (h b hb)

/-! ## Ports -/

/-- The law on a port but for its receiver: PortRec.lawful of a port whose command has executed. -/
def PortRec.bodyLawful (r : PortRec) : Prop := { r with receiver := .trailing }.lawful

/-- The law on a port in terms of its receiver, its markers and the rest. -/
theorem PortRec.lawful_iff {r : PortRec} :
    r.lawful ↔ r.receiver.lawful ∧ r.bodyLawful ∧ (r.receiver.hasExecuted = false → r.readMarker = none ∧ r.collect = none) := by
  unfold PortRec.bodyLawful PortRec.lawful
  simp only [Receiver.lawful, Receiver.hasExecuted, true_and, Option.mem_def]
  constructor
  · rintro ⟨hr, h1, h2, h3, h4, h5, h6, h7, hm, hc⟩
    refine ⟨hr, ⟨h1, h2, h3, h4, h5, h6, h7, fun m h => (hm m h).2, fun m h => (hc m h).2⟩, fun hx => ⟨?_, ?_⟩⟩
    · cases h : r.readMarker with
      | none => rfl
      | some m => simp [hx] at hm; exact absurd h (hm m)
    · cases h : r.collect with
      | none => rfl
      | some m => simp [hx] at hc; exact absurd h (hc m)
  · rintro ⟨hr, ⟨h1, h2, h3, h4, h5, h6, h7, hm, hc⟩, hx⟩
    have hexec : (∃ m, r.readMarker = some m) ∨ (∃ m, r.collect = some m) → r.receiver.hasExecuted = true := by
      intro h
      cases hh : r.receiver.hasExecuted with
      | true => rfl
      | false => simp [hx hh] at h
    exact ⟨hr, h1, h2, h3, h4, h5, h6, h7, fun m h => ⟨hexec (.inl ⟨m, h⟩), hm m h⟩, fun m h => ⟨hexec (.inr ⟨m, h⟩), hc m h⟩⟩

/-- A port whose receiver and chip select are as they were, with no new marker. -/
structure PortRec.StepsTo (r r' : PortRec) : Prop where
  receiver : r'.receiver = r.receiver
  csLow : r'.csLow = r.csLow
  body : r.bodyLawful → r'.bodyLawful
  readMarker : r.readMarker = none → r'.readMarker = none
  collect : r.collect = none → r'.collect = none

theorem PortRec.StepsTo.refl (r : PortRec) : r.StepsTo r := ⟨rfl, rfl, id, id, id⟩

theorem PortRec.StepsTo.trans {r r' r'' : PortRec} (h : r.StepsTo r') (k : r'.StepsTo r'') : r.StepsTo r'' :=
  ⟨k.receiver.trans h.receiver, k.csLow.trans h.csLow, k.body ∘ h.body, k.readMarker ∘ h.readMarker, k.collect ∘ h.collect⟩

theorem PortRec.StepsTo.lawful {r r' : PortRec} (h : r.StepsTo r') (hr : r.lawful) : r'.lawful := by
  rw [PortRec.lawful_iff] at hr ⊢
  obtain ⟨h1, h2, h3⟩ := hr
  rw [h.receiver]
  exact ⟨h1, h.body h2, fun hx => ⟨h.readMarker (h3 hx).1, h.collect (h3 hx).2⟩⟩

/-- An event raised on a port keeps its law: the event leaves the marker, and joins the set once. -/
theorem PortRec.stepsTo_raise (r : PortRec) (ev : Event) : r.StepsTo (r.raise ev) where
  receiver := rfl
  csLow := rfl
  body := fun ⟨hr, h1, h2, h3, h4, h5, _, h7, hm, hc⟩ => by
    refine ⟨hr, h1, h2, h3, h4, h5, nodup_withEvent ev _, h7, fun m hmem => ⟨rfl, fun x hx => ?_⟩, hc⟩
    simp only [PortRec.raise, Option.mem_def, Option.map_eq_some_iff] at hmem
    obtain ⟨m', hm', rfl⟩ := hmem
    exact mem_withEvent.mpr (.inr ((hm m' hm').2 x (mem_withoutEvent.mp hx).1))
  readMarker := fun h => by simp [PortRec.raise, h]
  collect := id

/-- A record that joins the tail of a completion queue leaves the marker on the head. -/
theorem PortRec.stepsTo_append (r : PortRec) (is : List EntryIx) : r.StepsTo { r with completion := r.completion ++ is } where
  receiver := rfl
  csLow := rfl
  body := fun ⟨hr, h1, h2, h3, h4, h5, h6, h7, hm, hc⟩ => by
    refine ⟨hr, h1, h2, h3, h4, h5, h6, h7, hm, fun m hmem => ⟨rfl, ?_⟩⟩
    have := (hc m hmem).2
    simp only at this ⊢
    rw [List.head?_append, this]; rfl
  readMarker := id
  collect := id

/-- An entry that leaves a completion queue leaves the marker on the head, when it is not the one marked. -/
theorem PortRec.stepsTo_removed {r : PortRec} {i : EntryIx} (hi : ∀ m ∈ r.collect, m.entry ≠ i) :
    r.StepsTo { r with completion := removed i r.completion } where
  receiver := rfl
  csLow := rfl
  body := fun ⟨hr, h1, h2, h3, h4, h5, h6, h7, hm, hc⟩ => by
    refine ⟨hr, h1, h2, h3, h4, h5, h6, h7, hm, fun m hmem => ⟨rfl, ?_⟩⟩
    have hhead := (hc m hmem).2
    have hne := hi m hmem
    simp only at hhead ⊢
    cases hq : r.completion with
    | nil => simp [hq] at hhead
    | cons j rest =>
      obtain rfl : j = m.entry := by simpa [hq] using hhead
      simp [removed, hne]
  readMarker := id
  collect := id

/-! ## Moves -/

/-- A state whose entries are the followers of those of another. -/
def Follows (s u : State) : Prop := ∀ i e', u.entry i = some e' → ∃ e, s.entry i = some e ∧ e.FollowedBy e'

/-- A state whose entries come from those of another and take no more than they. -/
structure Descends (s u : State) : Prop where
  entry : ∀ i e', u.entry i = some e' → ∃ e, s.entry i = some e ∧ e.DescendsTo e'
  params : u.params = s.params
  buffer : u.buffer = s.buffer

theorem Descends.follows {s u : State} (h : Descends s u) : Follows s u := fun i e' he' => by
  obtain ⟨e, he, hd⟩ := h.entry i e' he'
  exact ⟨e, he, hd.toFollowedBy⟩

theorem Descends.refl (s : State) : Descends s s := ⟨fun _ e he => ⟨e, he, .refl e⟩, rfl, rfl⟩

theorem Descends.trans {s t u : State} (h : Descends s t) (k : Descends t u) : Descends s u where
  entry := fun i e'' he'' => by
    obtain ⟨e', he', hd'⟩ := k.entry i e'' he''
    obtain ⟨e, he, hd⟩ := h.entry i e' he'
    exact ⟨e, he, hd.trans hd'⟩
  params := k.params.trans h.params
  buffer := k.buffer.trans h.buffer

/-- A node that is bound stays bound, and was, when its record steps on. -/
theorem bound_of_stepsTo {s u : State} {n : NodeIx} (h : (s.node n).StepsTo (u.node n)) {b : BoundNode}
    (hb : s.bound n = some b) : ∃ b', u.bound n = some b' ∧ b.StepsTo b' := by
  have hr := h.bound
  change Option.Rel _ (s.bound n) (u.bound n) at hr
  rw [hb] at hr
  cases hu : u.bound n with
  | none => rw [hu] at hr; cases hr
  | some b' => rw [hu] at hr; cases hr with | some hstep => exact ⟨b', rfl, hstep⟩

theorem bound_back_of_stepsTo {s u : State} {n : NodeIx} (h : (s.node n).StepsTo (u.node n)) {b' : BoundNode}
    (hb : u.bound n = some b') : ∃ b, s.bound n = some b ∧ b.StepsTo b' := by
  have hr := h.bound
  change Option.Rel _ (s.bound n) (u.bound n) at hr
  rw [hb] at hr
  cases hs : s.bound n with
  | none => rw [hs] at hr; cases hr
  | some b => rw [hs] at hr; cases hr with | some hstep => exact ⟨b, rfl, hstep⟩

/-- A state reached by moving entries on, counting and raising events. -/
structure Moves (s u : State) : Prop extends Descends s u where
  node : ∀ n, (s.node n).StepsTo (u.node n)
  port : ∀ p, (s.port p).StepsTo (u.port p)

theorem Moves.refl (s : State) : Moves s s := ⟨.refl s, fun _ => .refl _, fun _ => .refl _⟩

theorem Moves.trans {s t u : State} (h : Moves s t) (k : Moves t u) : Moves s u :=
  ⟨h.toDescends.trans k.toDescends, fun n => (h.node n).trans (k.node n), fun p => (h.port p).trans (k.port p)⟩

/-! ## The laws, each with what keeps it -/

theorem tableLaw_of {s u : State} (hs : TableLaw s)
    (h : ∀ i e', u.entry i = some e' → ∃ e, s.entry i = some e ∧ e'.port = e.port ∧ e'.tag = e.tag ∧ (e.lawful → e'.lawful)) :
    TableLaw u := by
  refine ⟨fun i e' he' => ?_, fun i j e' he' f' hf' hp ht => ?_⟩
  · obtain ⟨e, he, -, -, hl⟩ := h i e' he'
    exact hl (hs.1 i e he)
  · obtain ⟨e, he, hep, het, -⟩ := h i e' he'
    obtain ⟨f, hf, hfp, hft, -⟩ := h j f' hf'
    exact hs.2 i j e he f hf (by rw [← hep, ← hfp, hp]) (by rw [← het, ← hft, ht])

/-- The blocks of the entry at `i`; none when it is FREE. -/
def State.blocksAt (s : State) (i : EntryIx) : List BlockIx := ((s.entry i).map Entry.blocks).getD []

theorem occupied_eq_flatMap (s : State) : s.occupied = allEntries.flatMap s.blocksAt := by
  have h : ∀ is : List EntryIx, (is.filterMap s.entry).flatMap (fun e => e.blocks) = is.flatMap s.blocksAt := fun is => by
    induction is with
    | nil => rfl
    | cons i rest ih => cases he : s.entry i <;> simp [he, ih, State.blocksAt]
  exact h _

theorem mem_occupied {s : State} {c : BlockIx} : c ∈ s.occupied ↔ ∃ i, c ∈ s.blocksAt i := by
  simp [occupied_eq_flatMap]

theorem occupied_nodup_iff {s : State} :
    s.occupied.Nodup ↔ (∀ i, (s.blocksAt i).Nodup) ∧ ∀ i j, i ≠ j → (s.blocksAt i).Disjoint (s.blocksAt j) := by
  rw [occupied_eq_flatMap, List.nodup_flatMap]
  constructor
  · rintro ⟨hnd, hdis⟩
    refine ⟨fun i => hnd i (List.mem_finRange i), fun i j hij => ?_⟩
    have hsymm : Std.Symm (Function.onFun List.Disjoint s.blocksAt) := ⟨fun a b h => List.Disjoint.symm h⟩
    exact hdis.forall (List.mem_finRange i) (List.mem_finRange j) hij
  · rintro ⟨hnd, hdis⟩
    exact ⟨fun i _ => hnd i, (List.nodup_finRange 48).imp fun {i j} hij => hdis i j hij⟩

theorem occupied_nodup_of {s u : State} (hs : s.occupied.Nodup)
    (h : ∀ i, (u.blocksAt i).Sublist (s.blocksAt i)) : u.occupied.Nodup := by
  rw [occupied_nodup_iff] at hs ⊢
  exact ⟨fun i => (h i).nodup (hs.1 i), fun i j hij => fun c hi hj => hs.2 i j hij ((h i).subset hi) ((h j).subset hj)⟩

/-- The laws that no exchange and no receiver enters. -/
structure Core (s : State) : Prop where
  table : TableLaw s
  queue : QueueLaw s
  total : s.committedTotal ≤ s.params.limit
  buffer : BufferLaw s
  node : NodeLaw s
  seq : SeqLaw s
  param : ParamLaw s

/-- The head of the admission queue does not fit (R31). -/
def HeadWaits (s : State) : Prop := ∀ i ∈ s.admission.head?, ∀ e ∈ s.entry i, fits s e.need = false

theorem lawful_iff {s : State} : Lawful s ↔ Core s ∧ HeadWaits s ∧ LineLaw s ∧ PortLaw s := by
  constructor
  · rintro ⟨h1, h2, h3, h4, h5, h6, h7, h8, h9⟩
    exact ⟨⟨h1, h2, h3.1, h4, h5, h6, h9⟩, h3.2, h7, h8⟩
  · rintro ⟨⟨h1, h2, h3, h4, h5, h6, h9⟩, h3', h7, h8⟩
    exact ⟨h1, h2, ⟨h3, h3'⟩, h4, h5, h6, h7, h8, h9⟩

/-! ## Seqs -/

/-- A seq is in use at a node. -/
theorem mem_liveSeqs {s : State} {n : NodeIx} {q : Seq} :
    q ∈ s.liveSeqs n ↔ ∃ i e, s.entry i = some e ∧ e.node = n ∧ e.phase.liveSeq = some q := by
  simp only [State.liveSeqs, List.mem_filterMap, State.mem_liveEntries, Option.bind_eq_some_iff]
  constructor
  · rintro ⟨i, ⟨e, he, hn, -⟩, f, hf, hq⟩
    obtain rfl : e = f := by simpa [he] using hf
    exact ⟨i, e, he, hn, hq⟩
  · rintro ⟨i, e, he, hn, hq⟩
    exact ⟨i, ⟨e, he, hn, by simp [hq]⟩, e, he, hq⟩

/-- The live seqs of a node are distinct exactly when no two of its live entries share one. -/
theorem nodup_liveSeqs {s : State} {n : NodeIx} :
    (s.liveSeqs n).Nodup ↔ ∀ i j e f q, s.entry i = some e → s.entry j = some f → e.node = n → f.node = n →
      e.phase.liveSeq = some q → f.phase.liveSeq = some q → i = j := by
  have hnd : (s.liveEntries n).Nodup := s.nodup_entriesWhere _
  rw [State.liveSeqs]
  constructor
  · intro h i j e f q he hf hen hfn hq hq'
    by_contra hij
    have hi : i ∈ s.liveEntries n := State.mem_liveEntries.mpr ⟨e, he, hen, by simp [hq]⟩
    have hj : j ∈ s.liveEntries n := State.mem_liveEntries.mpr ⟨f, hf, hfn, by simp [hq']⟩
    have hpw : (s.liveEntries n).Pairwise fun i j =>
        ∀ a, ((s.entry i).bind fun e => e.phase.liveSeq) = some a → ∀ c, ((s.entry j).bind fun e => e.phase.liveSeq) = some c → a ≠ c := by
      rw [List.Nodup, List.pairwise_filterMap] at h
      exact h
    have hsymm : Std.Symm fun i j =>
        ∀ a, ((s.entry i).bind fun e => e.phase.liveSeq) = some a → ∀ c, ((s.entry j).bind fun e => e.phase.liveSeq) = some c → a ≠ c :=
      ⟨fun a b h x hx y hy => (h y hy x hx).symm⟩
    exact hpw.forall hi hj hij q (by simp [he, hq]) q (by simp [hf, hq']) rfl
  · intro h
    rw [List.Nodup, List.pairwise_filterMap]
    refine hnd.imp_of_mem fun {i j} hi hj hij a ha c hc hac => hij ?_
    obtain ⟨e, he, hen, -⟩ := State.mem_liveEntries.mp hi
    obtain ⟨f, hf, hfn, -⟩ := State.mem_liveEntries.mp hj
    exact h i j e f a he hf hen hfn (by simpa [he] using ha) (by simpa [hf, hac] using hc)

theorem mem_usedSeqs {s : State} {n : NodeIx} {b : BoundNode} {q : Seq} :
    q ∈ s.usedSeqs n b ↔ q ∈ s.liveSeqs n ∨ b.issuingSeq = some q ∨ q ∈ b.abandoned := by
  simp [State.usedSeqs]

theorem nodup_usedSeqs {s : State} {n : NodeIx} {b : BoundNode} :
    (s.usedSeqs n b).Nodup ↔ (s.liveSeqs n).Nodup ∧ b.abandoned.Nodup ∧
      (∀ q, b.issuingSeq = some q → q ∉ s.liveSeqs n ∧ q ∉ b.abandoned) ∧ ∀ q ∈ b.abandoned, q ∉ s.liveSeqs n := by
  simp only [State.usedSeqs, List.nodup_append', List.disjoint_left, List.mem_append, Option.mem_toList]
  cases b.issuingSeq with
  | none => simp; tauto
  | some q => simp; grind

/-- The law at one node carries over to fewer seqs in use. -/
theorem usedSeqs_of_subset {s u : State} {n : NodeIx} {b b' : BoundNode} (hs : (s.usedSeqs n b).length ≤ 8)
    (hnd : (u.usedSeqs n b').Nodup) (hsub : u.usedSeqs n b' ⊆ s.usedSeqs n b) : (u.usedSeqs n b').length ≤ 8 :=
  (List.subperm_of_subset hnd hsub).length_le.trans hs

/-! ## Core under moves -/

theorem Follows.tableLaw {s u : State} (h : Follows s u) (hs : TableLaw s) : TableLaw u :=
  tableLaw_of hs fun i e' he' => by
    obtain ⟨e, he, hd⟩ := h i e' he'
    exact ⟨e, he, hd.port, hd.tag, hd.lawful⟩

theorem Descends.committedTotal_le {s u : State} (h : Descends s u) (hs : TableLaw s) : u.committedTotal ≤ s.committedTotal := by
  refine Machine.committedTotal_le fun i => ?_
  cases hu : u.entry i with
  | none => simp [State.committedAt, hu]
  | some e' =>
    obtain ⟨e, he, hd⟩ := h.entry i e' hu
    simpa [State.committedAt, hu, he] using hd.committed (hs.1 i e he)

theorem Descends.blocks {s u : State} (h : Descends s u) (i : EntryIx) : (u.blocksAt i).Sublist (s.blocksAt i) := by
  cases hu : u.entry i with
  | none => simp [State.blocksAt, hu]
  | some e' =>
    obtain ⟨e, he, hd⟩ := h.entry i e' hu
    rcases hd.blocks with hb | hb <;> simp [State.blocksAt, hu, he, hb]

theorem Descends.bufferLaw {s u : State} (h : Descends s u) (hs : BufferLaw s) : BufferLaw u :=
  ⟨occupied_nodup_of hs.1 h.blocks, by rw [h.buffer]; exact hs.2⟩

theorem nodeLaw_of {s u : State} (hn : ∀ n, (s.node n).StepsTo (u.node n)) (hs : NodeLaw s)
    (ho : ∀ i e', u.entry i = some e' → e'.phase.isOpen = true → ∃ b, s.bound e'.node = some b ∧ b.health ≠ .offline)
    (hl : ∀ i e', u.entry i = some e' → e'.phase.liveSeq.isSome = true →
      ∃ b, s.bound e'.node = some b ∧ b.health.inService = true) : NodeLaw u := by
  obtain ⟨hrec, hpos, -, -⟩ := hs
  refine ⟨fun n => ⟨(hn n).counters (hrec n).1, fun b' hb' => ?_⟩, fun n m b' hb' c' hc' hl hd => ?_, fun i e' he' hopen => ?_,
    fun i e' he' hlive => ?_⟩
  · obtain ⟨b, hb, hstep⟩ := bound_back_of_stepsTo (hn _) hb'
    exact hstep.lawful ((hrec n).2 b hb)
  · obtain ⟨b, hb, hbs⟩ := bound_back_of_stepsTo (hn _) hb'
    obtain ⟨c, hc, hcs⟩ := bound_back_of_stepsTo (hn _) hc'
    exact hpos n m b hb c hc (by rw [← hbs.line, ← hcs.line, hl]) (by rw [← hbs.drop, ← hcs.drop, hd])
  · obtain ⟨b, hb, hh⟩ := ho i e' he' hopen
    obtain ⟨b', hb', hstep⟩ := bound_of_stepsTo (hn _) hb
    exact ⟨b', hb', hstep.onLine hh⟩
  · obtain ⟨b, hb, hh⟩ := hl i e' he' hlive
    obtain ⟨b', hb', hstep⟩ := bound_of_stepsTo (hn _) hb
    exact ⟨b', hb', hstep.inService hh⟩

theorem Follows.nodeLaw {s u : State} (h : Follows s u) (hn : ∀ n, (s.node n).StepsTo (u.node n)) (hs : NodeLaw s) :
    NodeLaw u :=
  nodeLaw_of hn hs
    (fun i e' he' ho => by
      obtain ⟨e, he, hd⟩ := h i e' he'
      rw [hd.node]; exact hs.2.2.1 i e he (hd.isOpen ho))
    fun i e' he' hl => by
      obtain ⟨e, he, hd⟩ := h i e' he'
      obtain ⟨q, hq⟩ := Option.isSome_iff_exists.mp hl
      rw [hd.node]; exact hs.2.2.2 i e he (by rw [hd.live q hq]; rfl)

theorem Follows.liveSeqs_subset {s u : State} (h : Follows s u) (n : NodeIx) : u.liveSeqs n ⊆ s.liveSeqs n := fun q hq => by
  obtain ⟨i, e', he', hn, hl⟩ := mem_liveSeqs.mp hq
  obtain ⟨e, he, hd⟩ := h i e' he'
  exact mem_liveSeqs.mpr ⟨i, e, he, by rw [← hd.node, hn], hd.live q hl⟩

theorem Follows.nodup_liveSeqs {s u : State} (h : Follows s u) {n : NodeIx} (hs : (s.liveSeqs n).Nodup) : (u.liveSeqs n).Nodup := by
  rw [Machine.nodup_liveSeqs] at hs ⊢
  intro i j e' f' q he' hf' hen hfn hq hq'
  obtain ⟨e, he, hd⟩ := h i e' he'
  obtain ⟨f, hf, hd'⟩ := h j f' hf'
  exact hs i j e f q he hf (by rw [← hd.node, hen]) (by rw [← hd'.node, hfn]) (hd.live q hq) (hd'.live q hq')

/-- How the seqs of a node in `u` come from those in use in `s`. -/
structure SeqsFrom (s u : State) (n : NodeIx) (b b' : BoundNode) : Prop where
  nodup : b'.abandoned.Nodup
  issuing : b'.issuingSeq = b.issuingSeq ∨
    b'.issuingSeq = none ∧ ∀ i e, u.entry i = some e → e.node = n → e.phase.issuingSeq = none
  abandoned : ∀ q ∈ b'.abandoned, q ∈ s.usedSeqs n b ∧ q ∉ u.liveSeqs n ∧ b'.issuingSeq ≠ some q

theorem Follows.seqLaw {s u : State} (h : Follows s u) (hs : SeqLaw s)
    (hn : ∀ n b', u.bound n = some b' → ∃ b, s.bound n = some b ∧ SeqsFrom s u n b b')
    (hi : ∀ i e, u.entry i = some e → e.phase.issuingSeq.isSome = true → (u.bound e.node).isSome = true) : SeqLaw u := by
  obtain ⟨hused, hissuing, hone⟩ := hs
  refine ⟨fun n b' hb' => ?_, fun i e' he' hsome => ?_, fun i j e' he' f' hf' hei hfi hnode => ?_⟩
  · obtain ⟨b, hb, hfrom⟩ := hn n b' hb'
    obtain ⟨hnd, hlen⟩ := hused n b hb
    obtain ⟨hlnd, -, hiss, -⟩ := nodup_usedSeqs.mp hnd
    have hback : ∀ q, b'.issuingSeq = some q → b.issuingSeq = some q := fun q hq => by
      rcases hfrom.issuing with heq | ⟨hnone, -⟩
      · rw [← heq, hq]
      · rw [hnone] at hq; cases hq
    have hnd' : (u.usedSeqs n b').Nodup :=
      nodup_usedSeqs.mpr ⟨h.nodup_liveSeqs hlnd, hfrom.nodup,
        fun q hq => ⟨fun hl => (hiss q (hback q hq)).1 (h.liveSeqs_subset n hl), fun ha => (hfrom.abandoned q ha).2.2 hq⟩,
        fun q hq => (hfrom.abandoned q hq).2.1⟩
    refine ⟨hnd', usedSeqs_of_subset hlen hnd' fun q hq => ?_⟩
    rcases mem_usedSeqs.mp hq with hl | hq | ha
    · exact mem_usedSeqs.mpr (.inl (h.liveSeqs_subset n hl))
    · exact mem_usedSeqs.mpr (.inr (.inl (hback q hq)))
    · exact (hfrom.abandoned q ha).1
  · obtain ⟨e, he, hd⟩ := h i e' he'
    obtain ⟨q, hq⟩ := Option.isSome_iff_exists.mp hsome
    have hq' := hd.issuing q hq
    obtain ⟨b, hb, hbi⟩ := hissuing i e he (by rw [hq']; rfl)
    obtain ⟨b', hb'⟩ := Option.isSome_iff_exists.mp (hi i e' he' hsome)
    obtain ⟨c, hc, hfrom⟩ := hn e'.node b' hb'
    obtain rfl : b = c := by rw [hd.node, hb] at hc; exact Option.some.inj hc
    refine ⟨b', hb', ?_⟩
    rcases hfrom.issuing with heq | ⟨-, hnone⟩
    · rw [heq, hbi, hq, hq']
    · rw [hnone i e' he' rfl] at hsome; cases hsome
  · obtain ⟨e, he, hd⟩ := h i e' he'
    obtain ⟨f, hf, hd'⟩ := h j f' hf'
    obtain ⟨q, hq⟩ := Option.isSome_iff_exists.mp hei
    obtain ⟨q', hq'⟩ := Option.isSome_iff_exists.mp hfi
    exact hone i j e he f hf (by rw [hd.issuing q hq]; rfl) (by rw [hd'.issuing q' hq']; rfl)
      (by rw [← hd.node, ← hd'.node, hnode])

/-- A node whose seqs are those it had, or fewer. -/
theorem seqsFrom_of_sublist {s u : State} (h : Follows s u) (hs : SeqLaw s) {n : NodeIx} {b b' : BoundNode}
    (hb : s.bound n = some b) (hi : b'.issuingSeq = b.issuingSeq) (ha : b'.abandoned.Sublist b.abandoned) :
    SeqsFrom s u n b b' := by
  obtain ⟨-, hand, hiss, hab⟩ := nodup_usedSeqs.mp (hs.1 n b hb).1
  refine ⟨ha.nodup hand, .inl hi, fun q hq => ⟨mem_usedSeqs.mpr (.inr (.inr (ha.subset hq))),
    fun hl => hab q (ha.subset hq) (h.liveSeqs_subset n hl), fun hq' => ?_⟩⟩
  exact (hiss q (hi ▸ hq')).2 (ha.subset hq)

/-- The nodes' seqs as they were, or fewer. -/
theorem Follows.seqLaw_of_nodes {s u : State} (h : Follows s u) (hnode : ∀ n, (s.node n).StepsTo (u.node n)) (hs : SeqLaw s)
    (hn : ∀ n b b', s.bound n = some b → u.bound n = some b' → SeqsFrom s u n b b') : SeqLaw u :=
  h.seqLaw hs
    (fun n b' hb' => by
      obtain ⟨b, hb, -⟩ := bound_back_of_stepsTo (hnode _) hb'
      exact ⟨b, hb, hn n b b' hb hb'⟩)
    fun i e' he' hsome => by
      obtain ⟨e, he, hd⟩ := h i e' he'
      obtain ⟨q, hq⟩ := Option.isSome_iff_exists.mp hsome
      obtain ⟨b, hb, -⟩ := hs.2.1 i e he (by rw [hd.issuing q hq]; rfl)
      obtain ⟨b', hb', -⟩ := bound_of_stepsTo (hnode _) hb
      rw [hd.node, hb']; rfl

theorem outline_eq {b b' : BoundNode} (h : b'.outline = b.outline) :
    b'.line = b.line ∧ b'.drop = b.drop ∧ b'.health = b.health ∧ b'.issuingSeq = b.issuingSeq ∧
      b'.pendingAck = b.pendingAck ∧ b'.abandoned = b.abandoned := by
  simpa only [BoundNode.outline, Prod.mk.injEq, and_assoc] using h

theorem Follows.seqLaw_of_outline {s u : State} (h : Follows s u) (hnode : ∀ n, (s.node n).StepsTo (u.node n)) (hs : SeqLaw s)
    (ho : ∀ n, u.outlineAt n = s.outlineAt n) :
    SeqLaw u :=
  h.seqLaw_of_nodes hnode hs fun n b b' hb hb' => by
    have := ho n
    rw [State.outlineAt, State.outlineAt, hb, hb', Option.map_some, Option.map_some] at this
    obtain ⟨-, -, -, hi, -, ha⟩ := outline_eq (Option.some.inj this)
    exact seqsFrom_of_sublist h hs hb hi (ha ▸ .refl _)

theorem Descends.core {s u : State} (h : Descends s u) (hn : ∀ n, (s.node n).StepsTo (u.node n)) (hs : Core s)
    (hq : QueueLaw u) (hseq : SeqLaw u) : Core u where
  table := h.follows.tableLaw hs.table
  queue := hq
  total := by rw [h.params]; exact (h.committedTotal_le hs.table).trans hs.total
  buffer := h.bufferLaw hs.buffer
  node := h.follows.nodeLaw hn hs.node
  seq := hseq
  param := ⟨by rw [h.params]; exact hs.param.1, fun n => by rw [(hn n).params]; exact hs.param.2 n⟩

theorem Moves.core {s u : State} (h : Moves s u) (hs : Core s) (hq : QueueLaw u) (hseq : SeqLaw u) : Core u :=
  h.toDescends.core h.node hs hq hseq

theorem Moves.portLaw {s u : State} (h : Moves s u) (hr : u.rstnLow = s.rstnLow) (hs : PortLaw s) : PortLaw u := by
  obtain ⟨ha, hb, hidle⟩ := hs
  refine ⟨(h.port .a).lawful ha, (h.port .b).lawful hb, fun hlow => ?_⟩
  have hA := h.port .a
  have hB := h.port .b
  have := hidle (hr ▸ hlow)
  exact ⟨by rw [show u.portA = u.port .a from rfl, hA.receiver, hA.csLow]; exact this.1,
    by rw [show u.portB = u.port .b from rfl, hB.receiver, hB.csLow]; exact this.2⟩

end Sys2Proof.Machine
end

section
/-! PROOFS. The shared operations as moves, and what they leave of the lines and of the fields of the nodes that the laws of
the lines read. -/

namespace Sys2Proof.Machine

/-! ## The named updates -/

theorem moves_of_rest {s u : State} (ht : u.table = s.table) (hn : u.nodes = s.nodes) (ha : u.portA = s.portA)
    (hb : u.portB = s.portB) (hp : u.params = s.params) (hbuf : u.buffer = s.buffer) : Moves s u where
  entry := fun i e he => ⟨e, by rw [← he, State.entry, State.entry, ht], .refl e⟩
  node := fun n => by rw [State.node, State.node, hn]; exact .refl _
  port := fun p => by cases p <;> simp only [State.port, ha, hb] <;> exact .refl _
  params := hp
  buffer := hbuf

theorem moves_advance (s : State) (t : Time) : Moves s (s.advance t) := moves_of_rest rfl rfl rfl rfl rfl rfl

theorem moves_modLine (s : State) (l : LineIx) (f : LineRec → LineRec) : Moves s (s.modLine l f) :=
  moves_of_rest rfl rfl rfl rfl rfl rfl

theorem moves_modPort {s : State} {p : Port} {f : PortRec → PortRec} (h : (s.port p).StepsTo (f (s.port p))) :
    Moves s (s.modPort p f) where
  entry := fun i e he => ⟨e, by simpa using he, .refl e⟩
  node := fun n => by simpa using .refl _
  port := fun q => by
    rw [State.modPort_port]
    split
    · rename_i hq; subst hq; exact h
    · exact .refl _
  params := (State.fixed_eq (State.modPort_fixed s p f)).1
  buffer := (State.fixed_eq (State.modPort_fixed s p f)).2.2

theorem moves_raiseOn (p : Port) (ev : Event) (s : State) : Moves s (raiseOn p ev s) :=
  moves_modPort (PortRec.stepsTo_raise _ ev)

theorem moves_raiseBoth (ev : Event) (s : State) : Moves s (raiseBoth ev s) :=
  (moves_raiseOn .a ev s).trans (moves_raiseOn .b ev _)

theorem moves_modNode {s : State} {n : NodeIx} {f : NodeRec → NodeRec} (h : (s.node n).StepsTo (f (s.node n))) :
    Moves s (s.modNode n f) where
  entry := fun i e he => ⟨e, he, .refl e⟩
  node := fun m => by
    rw [State.modNode_node]
    split
    · rename_i hm; subst hm; exact h
    · exact .refl _
  port := fun p => by rw [State.modNode_port]; exact .refl _
  params := rfl
  buffer := rfl

theorem moves_modBound {s : State} {n : NodeIx} {f : BoundNode → BoundNode}
    (h : ∀ b, s.bound n = some b → b.StepsTo (f b)) : Moves s (s.modBound n f) :=
  moves_modNode (NodeRec.stepsTo_map h)

theorem moves_setEntry {s : State} {i : EntryIx} {e e' : Entry} (he : s.entry i = some e) (hd : e.DescendsTo e') :
    Moves s (s.setEntry i (some e')) where
  entry := fun j f hf => by
    rw [State.setEntry_entry] at hf
    split at hf
    · rename_i hij; subst hij
      obtain rfl := Option.some.inj hf
      exact ⟨e, he, hd⟩
    · exact ⟨f, hf, .refl f⟩
  node := fun _ => .refl _
  port := fun p => by rw [State.setEntry_port]; exact .refl _
  params := rfl
  buffer := rfl

theorem moves_setEntry_none (s : State) (i : EntryIx) : Moves s (s.setEntry i none) where
  entry := fun j f hf => by
    rw [State.setEntry_entry] at hf
    split at hf
    · simp at hf
    · exact ⟨f, hf, .refl f⟩
  node := fun _ => .refl _
  port := fun p => by rw [State.setEntry_port]; exact .refl _
  params := rfl
  buffer := rfl

theorem moves_abandonExchanges (f : Exchange → Bool) (s : State) : Moves s (abandonExchanges f s) :=
  moves_of_rest rfl rfl rfl rfl rfl rfl

/-- An issue queue with entries left out steps on. -/
theorem BoundNode.stepsTo_filter (b : BoundNode) (f : EntryIx → Bool) :
    b.StepsTo { b with issueQueue := b.issueQueue.filter f } where
  line := rfl
  drop := rfl
  inService := id
  onLine := id
  lawful := fun ⟨h1, h2, h3, h4, h5, h6, h7, h8⟩ =>
    ⟨h1, h2, h3, h4, h5, h6, h7, fun h => ⟨by simp [(h8 h).1], (h8 h).2⟩⟩

/-- An issue queue that grows at a node that is not OFFLINE. -/
theorem BoundNode.stepsTo_issueQueue {b : BoundNode} (h : b.health ≠ .offline) (q : List EntryIx) :
    b.StepsTo { b with issueQueue := q } where
  line := rfl
  drop := rfl
  inService := id
  onLine := id
  lawful := fun ⟨h1, h2, h3, h4, h5, h6, h7, _⟩ => ⟨h1, h2, h3, h4, h5, h6, h7, fun hh => absurd hh h⟩

theorem BoundNode.stepsTo_timeouts {b : BoundNode} {k : Nat} (hk : b.lawful → k ≤ 15) : b.StepsTo { b with timeouts := k } where
  line := rfl
  drop := rfl
  inService := id
  onLine := id
  lawful := fun h => by
    have hk' := hk h
    obtain ⟨h1, h2, h3, -, h5, h6, h7, h8⟩ := h
    exact ⟨h1, h2, h3, hk', h5, h6, h7, h8⟩

/-! ## The move to DONE, the return to READY, and freeing -/

theorem moves_leaveQueue {s : State} {i : EntryIx} {e : Entry}
    (h : e.phase.isDone = true → ∀ m ∈ (s.port e.port).collect, m.entry ≠ i) : Moves s (leaveQueue i e s) where
  entry := fun j f hf => ⟨f, by simpa using hf, .refl f⟩
  node := fun n => by
    rw [leaveQueue_node]
    split
    · exact NodeRec.stepsTo_map fun b _ => b.stepsTo_filter _
    · exact .refl _
  port := fun p => by
    rw [leaveQueue_port]
    split
    · rename_i hp
      obtain ⟨rfl, hd⟩ := Entry.place_eq_completion.mp hp
      exact PortRec.stepsTo_removed (h hd)
    · exact .refl _
  params := (State.fixed_eq (leaveQueue_fixed i e s)).1
  buffer := (State.fixed_eq (leaveQueue_fixed i e s)).2.2

theorem moves_finish (status : Status) (i : EntryIx) (s : State) : Moves s (finish status i s) := by
  cases he : s.entry i with
  | none => rw [finish_of_isDone (by simp [he])]; exact .refl s
  | some e =>
    cases ho : e.phase.isOpen with
    | false => rw [finish_of_isDone (by simp [he, ← Phase.isOpen_eq_false_iff, ho])]; exact .refl s
    | true =>
      rw [finish_of_isOpen he ho]
      have hleave : Moves s (leaveQueue i e s) := moves_leaveQueue (by rw [← Phase.isOpen_eq_false_iff, ho]; simp)
      have hset := hleave.trans (moves_setEntry (by simpa using he) (Entry.descendsTo_finished ho status (holdEnd s e.port)))
      have hqueue := hset.trans (moves_modPort (p := e.port)
        (f := fun r => { r with completion := r.completion ++ [i] }) (PortRec.stepsTo_append _ [i]))
      dsimp only
      split
      · exact hqueue.trans (moves_modBound fun b _ => BoundNode.stepsTo_timeouts fun _ => Nat.zero_le _)
      · exact hqueue

theorem moves_finishAll (status : Status) (is : List EntryIx) (s : State) : Moves s (finishAll status is s) := by
  induction is generalizing s with
  | nil => exact .refl s
  | cons i rest ih => exact (moves_finish status i s).trans (ih _)

/-- What entries must be to return to READY: out at a node that is not OFFLINE, and READs with a retry left when the return is
charged. -/
structure Returns (charged : Bool) (n : NodeIx) (is : List EntryIx) (s : State) : Prop where
  nodup : is.Nodup
  entry : ∀ i ∈ is, ∃ e, s.entry i = some e ∧ e.node = n ∧ e.phase.atNode = true ∧
    (charged = true → e.kind = .read ∧ e.retries < 3)
  node : ∀ b, s.bound n = some b → b.health ≠ .offline

theorem moves_returnToReady {charged : Bool} {n : NodeIx} {is : List EntryIx} {s : State} (h : Returns charged n is s) :
    Moves s (returnToReady charged n is s) where
  entry := fun i e' he' => by
    rw [returnToReady_entry charged n h.nodup] at he'
    split at he'
    · rename_i hi
      obtain ⟨e, he, -, ha, hc⟩ := h.entry i hi
      rw [he, Option.map_some] at he'
      obtain rfl := Option.some.inj he'
      exact ⟨e, he, Entry.descendsTo_returned ha hc⟩
    · exact ⟨e', he', .refl e'⟩
  node := fun m => by
    rw [returnToReady_node]
    split
    · rename_i hm; subst hm
      exact NodeRec.stepsTo_map fun b hb => BoundNode.stepsTo_issueQueue (h.node b hb) _
    · exact .refl _
  port := fun p => by rw [returnToReady_port]; exact .refl _
  params := (State.fixed_eq (returnToReady_fixed charged n is s)).1
  buffer := (State.fixed_eq (returnToReady_fixed charged n is s)).2.2

theorem Returns.queueLaw {charged : Bool} {n : NodeIx} {is : List EntryIx} {s : State} (h : Returns charged n is s)
    (hs : QueueLaw s) : QueueLaw (returnToReady charged n is s) :=
  returnToReady_queueLaw hs charged h.nodup fun i hi => by
    obtain ⟨e, he, hn, ha, -⟩ := h.entry i hi
    exact ⟨e, he, hn, Entry.place_of_atNode ha⟩

theorem moves_freeEntry {s : State} {i : EntryIx}
    (h : ∀ e, s.entry i = some e → e.phase.isDone = true → ∀ m ∈ (s.port e.port).collect, m.entry ≠ i) :
    Moves s (freeEntry i s) := by
  cases he : s.entry i with
  | none => rw [freeEntry_of_none he]; exact .refl s
  | some e => rw [freeEntry_eq he]; exact (moves_leaveQueue (h e he)).trans (moves_setEntry_none _ i)

/-! ## Samples, deadlines and acknowledgements -/

theorem moves_writeEstimate {n : NodeIx} {e spread : Nat} {s : State}
    (h : ∀ b, s.bound n = some b → b.lawful → e ≤ 4095 ∧ spread ≤ 4095) : Moves s (writeEstimate n e spread s) := by
  have hw : Moves s (s.modNode n fun r =>
      { r with
        slow := decide ((s.node n).params.slowCeiling < e)
        bound := r.bound.map fun b => { b with e := e, s := spread } }) := by
    refine moves_modNode ⟨rfl, id, ?_⟩
    cases hb : (s.node n).bound with
    | none => exact .none
    | some b =>
      refine .some ⟨rfl, rfl, id, id, fun hl => ?_⟩
      obtain ⟨he, hsp⟩ := h b hb hl
      obtain ⟨-, -, h3, h4, h5, h6, h7, h8⟩ := hl
      exact ⟨he, hsp, h3, h4, h5, h6, h7, h8⟩
  unfold writeEstimate
  dsimp only
  split
  · exact hw.trans (moves_raiseBoth _ _)
  · exact hw

theorem moves_takeSample (n : NodeIx) (accepted : Time) (s : State) : Moves s (takeSample n accepted s) := by
  cases hb : s.bound n with
  | none => rw [takeSample, hb]; exact .refl s
  | some b =>
    rw [takeSample_eq hb]
    refine moves_writeEstimate fun c hc hl => ?_
    obtain rfl : b = c := Option.some.inj (hb.symm.trans hc)
    obtain ⟨he, hs, -⟩ := hl
    have hsample : sampleTicks accepted s.now ≤ 4095 := by rw [sampleTicks_eq]; omega
    have hE := (nextE_eq b.e (sampleTicks accepted s.now)).2
    have hS := (nextS_eq b.e b.s (sampleTicks accepted s.now)).2
    omega

theorem moves_sampleOf (e : Entry) (s : State) : Moves s (sampleOf e s) := by
  unfold sampleOf
  split
  · exact moves_takeSample ..
  all_goals exact .refl s

@[simp] theorem Phase.withDeadline_live (d : Time) (r : Phase) : (r.withDeadline d).liveSeq = r.liveSeq := by cases r <;> rfl
@[simp] theorem Phase.withDeadline_issuing (d : Time) (r : Phase) : (r.withDeadline d).issuingSeq = r.issuingSeq := by
  cases r <;> rfl
@[simp] theorem Phase.withDeadline_isOpen (d : Time) (r : Phase) : (r.withDeadline d).isOpen = r.isOpen := by cases r <;> rfl

theorem Entry.descendsTo_withDeadline (e : Entry) (d : Time) : e.DescendsTo { e with phase := e.phase.withDeadline d } where
  port := rfl
  tag := rfl
  node := rfl
  lawful := fun ⟨h1, h2, h3, h4, h5⟩ => ⟨h1, h2, h3, h4, by
    cases hp : e.phase <;> simp_all [Entry.phaseLaw, Phase.withDeadline, Entry.need]⟩
  blocks := .inl rfl
  committed := fun _ => le_rfl
  waiting := fun h => by
    cases hp : e.phase <;> simp_all [Phase.withDeadline]
    cases e; simp_all
  isOpen := by simp
  live := by simp
  issuing := by simp

theorem moves_restartDeadline (i : EntryIx) (s : State) : Moves s (restartDeadline i s) := by
  unfold restartDeadline
  split
  · exact .refl s
  · exact moves_setEntry ‹_› (Entry.descendsTo_withDeadline _ _)

/-! ## The law on queue membership under operations that move no entry -/

/-- An operation that leaves every place and every queue as it was. -/
theorem queueLaw_congr {s u : State} (hplace : ∀ i, u.placeOf i = s.placeOf i) (hqueue : ∀ pl, u.queueAt pl = s.queueAt pl)
    (hs : QueueLaw s) : QueueLaw u := by
  rw [queueLaw_iff] at hs ⊢
  intro pl q hq
  rw [hqueue] at hq
  simpa only [hplace] using hs pl q hq

/-- The places and the queues of a part. -/
def State.queues (s : State) : (EntryIx → Option Place) × (Place → Option (List EntryIx)) := (s.placeOf, s.queueAt)

theorem queueLaw_of_queues {s u : State} (h : u.queues = s.queues) (hs : QueueLaw s) : QueueLaw u :=
  queueLaw_congr (fun i => congrFun (congrArg Prod.fst h) i) (fun pl => congrFun (congrArg Prod.snd h) pl) hs

theorem State.queues_congr {s u : State} (he : ∀ i, u.placeOf i = s.placeOf i) (ha : u.admission = s.admission)
    (hb : ∀ n, (u.bound n).map BoundNode.issueQueue = (s.bound n).map BoundNode.issueQueue)
    (hp : ∀ p, (u.port p).completion = (s.port p).completion) : u.queues = s.queues :=
  have hq : u.queueAt = s.queueAt := funext fun pl => by
    rcases pl with _ | n | p <;> simp only [State.queueAt, ha, hb, hp]
  Prod.ext (funext he) hq

@[simp] theorem State.advance_queues (s : State) (t : Time) : (s.advance t).queues = s.queues := rfl

@[simp] theorem State.modLine_queues (s : State) (l : LineIx) (f : LineRec → LineRec) : (s.modLine l f).queues = s.queues := rfl

theorem State.modPort_queues {s : State} {p : Port} {f : PortRec → PortRec}
    (h : (f (s.port p)).completion = (s.port p).completion) : (s.modPort p f).queues = s.queues :=
  State.queues_congr (fun i => by simp [State.placeOf]) (by simp) (fun n => by simp) fun q => by
    rw [State.modPort_port]; split
    · rename_i hq; subst hq; exact h
    · rfl

@[simp] theorem raiseOn_queues (p : Port) (ev : Event) (s : State) : (raiseOn p ev s).queues = s.queues :=
  State.modPort_queues rfl

@[simp] theorem raiseBoth_queues (ev : Event) (s : State) : (raiseBoth ev s).queues = s.queues := by simp [raiseBoth]

theorem State.modNode_queues {s : State} {n : NodeIx} {f : NodeRec → NodeRec}
    (h : (f (s.node n)).bound.map BoundNode.issueQueue = (s.bound n).map BoundNode.issueQueue) :
    (s.modNode n f).queues = s.queues :=
  State.queues_congr (fun i => by simp [State.placeOf]) rfl (fun m => by
    rw [State.modNode_bound]; split
    · rename_i hm; subst hm; exact h
    · rfl) fun p => by simp

theorem State.modBound_queues {s : State} {n : NodeIx} {f : BoundNode → BoundNode}
    (h : ∀ b, s.bound n = some b → (f b).issueQueue = b.issueQueue) : (s.modBound n f).queues = s.queues :=
  State.modNode_queues (by
    cases hb : s.bound n with
    | none => simp [show (s.node n).bound = none from hb]
    | some b => simp [show (s.node n).bound = some b from hb, h b hb])

theorem State.setEntry_queues {s : State} {i : EntryIx} {e e' : Entry} (he : s.entry i = some e) (hp : e'.place = e.place) :
    (s.setEntry i (some e')).queues = s.queues :=
  State.queues_congr (fun j => by
    simp only [State.placeOf, State.setEntry_entry]; split
    · rename_i hij; subst hij; simp [he, hp]
    · rfl) rfl (fun n => by simp) fun p => by simp

@[simp] theorem abandonExchanges_queues (f : Exchange → Bool) (s : State) : (abandonExchanges f s).queues = s.queues := rfl

@[simp] theorem writeEstimate_queues (n : NodeIx) (e spread : Nat) (s : State) : (writeEstimate n e spread s).queues = s.queues := by
  have hw : (s.modNode n fun r =>
      { r with
        slow := decide ((s.node n).params.slowCeiling < e)
        bound := r.bound.map fun b => { b with e := e, s := spread } }).queues = s.queues :=
    State.modNode_queues (by rw [Option.map_map]; rfl)
  unfold writeEstimate
  dsimp only
  split
  · rw [raiseBoth_queues, hw]
  · exact hw

@[simp] theorem takeSample_queues (n : NodeIx) (accepted : Time) (s : State) : (takeSample n accepted s).queues = s.queues := by
  unfold takeSample; split <;> simp

@[simp] theorem sampleOf_queues (e : Entry) (s : State) : (sampleOf e s).queues = s.queues := by
  unfold sampleOf; split <;> simp

theorem Entry.place_congr {e e' : Entry} (hp : e'.port = e.port) (hn : e'.node = e.node) (hw : e'.phase = .waiting ↔ e.phase = .waiting)
    (hr : e'.phase = .ready ↔ e.phase = .ready) (hd : e'.phase.isDone = e.phase.isDone) : e'.place = e.place := by
  unfold Entry.place
  cases h : e.phase <;> cases h' : e'.phase <;> simp_all

theorem Entry.place_withDeadline (e : Entry) (d : Time) : Entry.place { e with phase := e.phase.withDeadline d } = e.place := by
  have h (r : Phase) : (r.withDeadline d = .waiting ↔ r = .waiting) ∧ (r.withDeadline d = .ready ↔ r = .ready) ∧
      (r.withDeadline d).isDone = r.isDone := by
    cases r <;> simp [Phase.withDeadline]
  obtain ⟨hw, hr, hd⟩ := h e.phase
  exact Entry.place_congr rfl rfl hw hr hd

@[simp] theorem restartDeadline_queues (i : EntryIx) (s : State) : (restartDeadline i s).queues = s.queues := by
  unfold restartDeadline; split
  · rfl
  · exact State.setEntry_queues ‹_› (Entry.place_withDeadline _ _)

@[simp] theorem leaveAck_queues (n : NodeIx) (ack : Ack) (s : State) : (leaveAck n ack s).queues = s.queues :=
  State.modBound_queues fun _ _ => rfl

/-! ## The fields of the nodes that the laws of the lines read -/

theorem State.outlineAt_congr {s u : State} (h : ∀ n, u.bound n = s.bound n) (n : NodeIx) : u.outlineAt n = s.outlineAt n := by
  rw [State.outlineAt, State.outlineAt, h]

@[simp] theorem State.setEntry_outlineAt (s : State) (i : EntryIx) (o : Option Entry) (n : NodeIx) :
    (s.setEntry i o).outlineAt n = s.outlineAt n := rfl
@[simp] theorem State.modLine_outlineAt (s : State) (l : LineIx) (f : LineRec → LineRec) (n : NodeIx) :
    (s.modLine l f).outlineAt n = s.outlineAt n := rfl
@[simp] theorem State.advance_outlineAt (s : State) (t : Time) (n : NodeIx) : (s.advance t).outlineAt n = s.outlineAt n := rfl
@[simp] theorem State.modPort_outlineAt (s : State) (p : Port) (f : PortRec → PortRec) (n : NodeIx) :
    (s.modPort p f).outlineAt n = s.outlineAt n := State.outlineAt_congr (by simp) n
@[simp] theorem raiseOn_outlineAt (p : Port) (ev : Event) (s : State) (n : NodeIx) :
    (raiseOn p ev s).outlineAt n = s.outlineAt n := State.outlineAt_congr (by simp) n
@[simp] theorem raiseBoth_outlineAt (ev : Event) (s : State) (n : NodeIx) :
    (raiseBoth ev s).outlineAt n = s.outlineAt n := State.outlineAt_congr (by simp) n
@[simp] theorem abandonExchanges_outlineAt (f : Exchange → Bool) (s : State) (n : NodeIx) :
    (abandonExchanges f s).outlineAt n = s.outlineAt n := rfl

theorem State.modNode_outlineAt {s : State} {n : NodeIx} {f : NodeRec → NodeRec}
    (h : (f (s.node n)).bound.map BoundNode.outline = (s.bound n).map BoundNode.outline) (m : NodeIx) :
    (s.modNode n f).outlineAt m = s.outlineAt m := by
  rw [State.outlineAt, State.modNode_bound]; split
  · rename_i hm; subst hm; exact h
  · rfl

theorem State.modNode_outlineAt_ne {s : State} {n m : NodeIx} (f : NodeRec → NodeRec) (hm : m ≠ n) :
    (s.modNode n f).outlineAt m = s.outlineAt m := by
  rw [State.outlineAt, State.modNode_bound, if_neg hm.symm]; rfl

theorem State.modBound_outlineAt_ne {s : State} {n m : NodeIx} (f : BoundNode → BoundNode) (hm : m ≠ n) :
    (s.modBound n f).outlineAt m = s.outlineAt m := State.modNode_outlineAt_ne _ hm

theorem State.modBound_outlineAt {s : State} {n : NodeIx} {f : BoundNode → BoundNode}
    (h : ∀ b, s.bound n = some b → (f b).outline = b.outline) (m : NodeIx) :
    (s.modBound n f).outlineAt m = s.outlineAt m := by
  rw [State.outlineAt, State.modBound_bound, State.outlineAt]; split
  · rename_i hm; subst hm
    cases hb : s.bound n with
    | none => rfl
    | some b => simp [h b hb]
  · rfl

@[simp] theorem leaveQueue_outlineAt (i : EntryIx) (e : Entry) (s : State) (n : NodeIx) :
    (leaveQueue i e s).outlineAt n = s.outlineAt n := by
  rw [State.outlineAt, State.outlineAt, leaveQueue_bound]
  split
  · rw [Option.map_map]; rfl
  · rfl

@[simp] theorem finish_outlineAt (status : Status) (i : EntryIx) (s : State) (n : NodeIx) :
    (finish status i s).outlineAt n = s.outlineAt n := by
  cases he : s.entry i with
  | none => rw [finish_of_isDone (by simp [he])]
  | some e =>
    cases ho : e.phase.isOpen with
    | false => rw [finish_of_isDone (by simp [he, ← Phase.isOpen_eq_false_iff, ho])]
    | true => rw [State.outlineAt, finish_bound he ho, Option.map_map]; rfl

@[simp] theorem finishAll_outlineAt (status : Status) (is : List EntryIx) (s : State) (n : NodeIx) :
    (finishAll status is s).outlineAt n = s.outlineAt n := by
  induction is generalizing s with
  | nil => rfl
  | cons i rest ih => rw [finishAll_cons, ih, finish_outlineAt]

@[simp] theorem returnToReady_outlineAt (charged : Bool) (n : NodeIx) (is : List EntryIx) (s : State) (m : NodeIx) :
    (returnToReady charged n is s).outlineAt m = s.outlineAt m := by
  rw [State.outlineAt, returnToReady_bound]; split
  · rename_i hm; subst hm; rw [Option.map_map]; rfl
  · rfl

@[simp] theorem freeEntry_outlineAt (i : EntryIx) (s : State) (n : NodeIx) : (freeEntry i s).outlineAt n = s.outlineAt n := by
  cases he : s.entry i with
  | none => rw [freeEntry_of_none he]
  | some e => rw [freeEntry_eq he, State.setEntry_outlineAt, leaveQueue_outlineAt]

@[simp] theorem grantHead_outlineAt (i : EntryIx) (e : Entry) (s : State) (n : NodeIx) :
    (grantHead i e s).outlineAt n = s.outlineAt n := by
  rw [State.outlineAt, grantHead_bound]; split
  · rename_i hm; subst hm; rw [Option.map_map]; rfl
  · rfl

@[simp] theorem retest_outlineAt (before after : State) (n : NodeIx) : (retest before after).outlineAt n = after.outlineAt n :=
  retest_induction (P := fun u => u.outlineAt n = after.outlineAt n)
    (fun s i e hs _ _ _ _ => by rw [grantHead_outlineAt, hs]) before rfl

@[simp] theorem writeEstimate_outlineAt (n : NodeIx) (e spread : Nat) (s : State) (m : NodeIx) :
    (writeEstimate n e spread s).outlineAt m = s.outlineAt m := by
  unfold writeEstimate
  dsimp only
  split
  · rw [raiseBoth_outlineAt]; exact State.modNode_outlineAt (by rw [Option.map_map]; rfl) m
  · exact State.modNode_outlineAt (by rw [Option.map_map]; rfl) m

@[simp] theorem takeSample_outlineAt (n : NodeIx) (accepted : Time) (s : State) (m : NodeIx) :
    (takeSample n accepted s).outlineAt m = s.outlineAt m := by
  unfold takeSample; split <;> simp

@[simp] theorem sampleOf_outlineAt (e : Entry) (s : State) (m : NodeIx) : (sampleOf e s).outlineAt m = s.outlineAt m := by
  unfold sampleOf; split <;> simp

@[simp] theorem restartDeadline_outlineAt (i : EntryIx) (s : State) (m : NodeIx) :
    (restartDeadline i s).outlineAt m = s.outlineAt m := by
  unfold restartDeadline; split <;> simp

/-! ## The lines -/

@[simp] theorem writeEstimate_line (n : NodeIx) (e spread : Nat) (s : State) (l : LineIx) :
    (writeEstimate n e spread s).line l = s.line l := by
  unfold writeEstimate; dsimp only; split <;> simp
@[simp] theorem takeSample_line (n : NodeIx) (accepted : Time) (s : State) (l : LineIx) :
    (takeSample n accepted s).line l = s.line l := by
  unfold takeSample; split <;> simp
@[simp] theorem sampleOf_line (e : Entry) (s : State) (l : LineIx) : (sampleOf e s).line l = s.line l := by
  unfold sampleOf; split <;> simp
@[simp] theorem restartDeadline_line (i : EntryIx) (s : State) (l : LineIx) : (restartDeadline i s).line l = s.line l := by
  unfold restartDeadline; split <;> simp

/-! ## The laws of Core under the shared operations -/

theorem Returns.core {charged : Bool} {n : NodeIx} {is : List EntryIx} {s : State} (h : Returns charged n is s)
    (hs : Core s) : Core (returnToReady charged n is s) :=
  (moves_returnToReady h).core hs (h.queueLaw hs.queue) ((moves_returnToReady h).follows.seqLaw_of_outline (moves_returnToReady h).node hs.seq fun m => by simp)

theorem finish_core {s : State} (hs : Core s) (status : Status) (i : EntryIx) : Core (finish status i s) :=
  (moves_finish status i s).core hs (finish_queueLaw hs.queue status i)
    ((moves_finish status i s).follows.seqLaw_of_outline (moves_finish status i s).node hs.seq fun n => by simp)

theorem finishAll_core {s : State} (hs : Core s) (status : Status) (is : List EntryIx) : Core (finishAll status is s) :=
  (moves_finishAll status is s).core hs (finishAll_queueLaw hs.queue status is)
    ((moves_finishAll status is s).follows.seqLaw_of_outline (moves_finishAll status is s).node hs.seq fun n => by simp)

/-- A move that leaves the queues and the outlines of the nodes. -/
theorem Moves.core_of_rest {s u : State} (h : Moves s u) (hs : Core s) (hq : u.queues = s.queues)
    (ho : ∀ n, u.outlineAt n = s.outlineAt n) : Core u :=
  h.core hs (queueLaw_of_queues hq hs.queue) (h.follows.seqLaw_of_outline h.node hs.seq ho)

theorem State.lineViewAt_of_outline {s u : State} {n : NodeIx} (h : u.outlineAt n = s.outlineAt n) :
    u.lineViewAt n = s.lineViewAt n := by rw [State.lineViewAt, h]; rfl

end Sys2Proof.Machine
end

section
/-! PROOFS. Admission's test and the laws: the heads granted keep them, and after the test the head does not fit. -/

namespace Sys2Proof.Machine

/-! ## The grant of a head -/

theorem Entry.followedBy_granted {e : Entry} (hw : e.phase = .waiting) : e.FollowedBy e.granted where
  port := rfl
  tag := rfl
  node := rfl
  lawful := fun h => Entry.granted_lawful h hw
  isOpen := fun _ => by simp [hw]
  live := by simp [Entry.granted]
  issuing := by simp [Entry.granted]

theorem grantHead_follows {i : EntryIx} {e : Entry} {s : State} (he : s.entry i = some e) (hw : e.phase = .waiting) :
    Follows s (grantHead i e s) := fun j f hf => by
  rw [grantHead_entry] at hf
  split at hf
  · rename_i hij; subst hij
    obtain rfl := Option.some.inj hf
    exact ⟨e, he, Entry.followedBy_granted hw⟩
  · exact ⟨f, hf, .refl f⟩

theorem grantHead_stepsTo {i : EntryIx} {e : Entry} {s : State} (hn : ∀ b, s.bound e.node = some b → b.health ≠ .offline)
    (n : NodeIx) : (s.node n).StepsTo ((grantHead i e s).node n) := by
  rw [grantHead_node]
  split
  · rename_i h; subst h
    exact NodeRec.stepsTo_map fun b hb => BoundNode.stepsTo_issueQueue (hn b hb) _
  · exact .refl _

/-- The node of an open entry is not OFFLINE. -/
theorem NodeLaw.online {s : State} (hs : NodeLaw s) {i : EntryIx} {e : Entry} (he : s.entry i = some e)
    (ho : e.phase.isOpen = true) : ∀ b, s.bound e.node = some b → b.health ≠ .offline := fun b hb => by
  obtain ⟨c, hc, hh⟩ := hs.2.2.1 i e he ho
  obtain rfl : b = c := Option.some.inj (hb.symm.trans hc)
  exact hh

theorem grantHead_core {i : EntryIx} {e : Entry} {s : State} (hs : Core s) (he : s.entry i = some e)
    (hw : e.phase = .waiting) (hfits : fits s e.need = true) : Core (grantHead i e s) where
  table := grantHead_tableLaw hs.table he hw
  queue := grantHead_queueLaw hs.queue he hw
  total := by
    rw [grantHead_committedTotal he (hs.table.waiting_need he hw).2]
    simpa [fits] using hfits
  buffer := by
    refine ⟨occupied_nodup_of hs.buffer.1 fun j => ?_, ?_⟩
    · rw [State.blocksAt, grantHead_entry]
      split
      · rename_i hij; subst hij; simp [State.blocksAt, he, Entry.granted]
      · exact .refl _
    · rw [(State.fixed_eq (grantHead_fixed i e s)).2.2]; exact hs.buffer.2
  node := (grantHead_follows he hw).nodeLaw (grantHead_stepsTo (hs.node.online he (by simp [hw]))) hs.node
  seq := (grantHead_follows he hw).seqLaw_of_outline (grantHead_stepsTo (hs.node.online he (by simp [hw]))) hs.seq fun n => by simp
  param := ⟨by rw [grantHead_params]; exact hs.param.1, fun n => by
    rw [(grantHead_stepsTo (hs.node.online he (by simp [hw])) n).params]; exact hs.param.2 n⟩

/-! ## The test -/

theorem retest_core {before after : State} (hs : Core after) : Core (retest before after) :=
  retest_induction (P := Core) (fun _ _ _ hs _ he hw hf => grantHead_core hs he hw hf) before hs

/-- After a test of all heads the head does not fit. -/
theorem testHeads_headWaits (fuel : Nat) (s : State) (hlen : s.admission.length ≤ fuel) (hs : Core s) :
    HeadWaits (testHeads fuel s) := by
  induction fuel generalizing s with
  | zero =>
    intro i hi
    simp [testHeads, List.length_eq_zero_iff.mp (Nat.le_zero.mp hlen)] at hi
  | succ fuel ih =>
    unfold testHeads
    split
    · rename_i hadm; intro i hi; simp [hadm] at hi
    · rename_i i rest hadm
      obtain ⟨e, he, hw⟩ := hs.queue.head_waiting (i := i) (by simp [hadm])
      simp only [he]
      split
      · rename_i h
        refine ih _ ?_ (grantHead_core hs he h.1 h.2)
        rw [grantHead_admission, hadm]
        have : (removed i (i :: rest)).length ≤ rest.length := by
          rw [removed, List.filter_cons_of_neg (by simp)]
          exact List.length_filter_le ..
        simp only [hadm, List.length_cons] at hlen
        omega
      · rename_i h
        intro j hj f hf
        obtain rfl : i = j := by simpa [hadm] using hj
        obtain rfl : e = f := Option.some.inj (he.symm.trans hf)
        simpa [hw] using h

/-- The entries waiting in `u` wait in `s` with the same record. -/
def WaitersFrom (s u : State) : Prop := ∀ i e, u.entry i = some e → e.phase = .waiting → s.entry i = some e

theorem Descends.waitersFrom {s u : State} (h : Descends s u) : WaitersFrom s u := fun i e' he' hw => by
  obtain ⟨e, he, hd⟩ := h.entry i e' he'
  rw [he, hd.waiting hw]

theorem WaitersFrom.trans {s t u : State} (h : WaitersFrom s t) (k : WaitersFrom t u) : WaitersFrom s u :=
  fun i e he hw => h i e (k i e he hw) hw

/-- The head waits when it is the same, and there is no more room for it than there was. -/
theorem headWaits_of {s u : State} (hs : HeadWaits s) (hq : QueueLaw u) (hw : WaitersFrom s u)
    (hhead : u.admission.head? = s.admission.head?) (hle : s.committedTotal ≤ u.committedTotal)
    (hlim : u.params.limit ≤ s.params.limit) : HeadWaits u := fun i hi e he => by
  have hmem : i ∈ u.admission := by
    cases h : u.admission with
    | nil => simp [h] at hi
    | cons j rest => obtain rfl : j = i := by simpa [h] using hi
                     simp
  obtain ⟨f, hf, hwait⟩ := hq.head_waiting hmem
  obtain rfl : e = f := Option.some.inj ((Option.mem_def.mp he).symm.trans hf)
  have := hs i (hhead ▸ hi) e (hw i e he hwait)
  simp only [fits, decide_eq_false_iff_not, not_le] at this ⊢
  omega

/-- An event that is followed by a test of the head leaves a head that does not fit. -/
theorem retest_headWaits {before after : State} (hs : HeadWaits before) (hcore : Core after) (hw : WaitersFrom before after) :
    HeadWaits (retest before after) := by
  by_cases hc : after.committedTotal < before.committedTotal ∨ before.params.limit < after.params.limit ∨
      after.admission.head? ≠ before.admission.head?
  · rw [retest_of_cause hc]
    exact testHeads_headWaits _ _ le_rfl hcore
  · rw [retest_of_no_cause hc]
    simp only [not_or, not_lt, ne_eq, not_not] at hc
    exact headWaits_of hs hcore.queue hw hc.2.2 hc.1 hc.2.1

end Sys2Proof.Machine
end

section
/-! PROOFS. The entry of a node into OFFLINE and the laws: the table, the seqs and the ports. -/

namespace Sys2Proof.Machine

theorem Entry.descendsTo_ended (status : Status) (s : State) (e : Entry) : e.DescendsTo (e.ended status s) := by
  unfold Entry.ended
  split
  · exact Entry.descendsTo_finished ‹_› _ _
  · exact .refl e

/-- An entry that has been ended is not open. -/
theorem Entry.ended_isOpen (status : Status) (s : State) (e : Entry) : (e.ended status s).phase.isOpen = false := by
  unfold Entry.ended
  split
  · simp
  · exact Bool.eq_false_iff.mpr ‹_›

theorem Phase.issuingSeq_of_isOpen {r : Phase} (h : r.isOpen = false) : r.issuingSeq = none := by cases r <;> simp_all

theorem Phase.liveSeq_of_isOpen {r : Phase} (h : r.isOpen = false) : r.liveSeq = none := by cases r <;> simp_all

section
variable {s : State} {n : NodeIx} {b : BoundNode} (hs : QueueLaw s) (hb : s.bound n = some b)
include hs hb

theorem leaveService_entry_cases (status : Status) {i : EntryIx} {e' : Entry}
    (he' : (finishAll status (openInOrder s n b) s).entry i = some e') :
    ∃ e, s.entry i = some e ∧ e.DescendsTo e' ∧ (e.node = n → e'.phase.isOpen = false) ∧ (e.node ≠ n → e' = e) := by
  rw [leaveService_entry hs hb, Option.map_eq_some_iff] at he'
  obtain ⟨e, he, rfl⟩ := he'
  refine ⟨e, he, ?_⟩
  split
  · rename_i hn
    exact ⟨Entry.descendsTo_ended .., fun _ => Entry.ended_isOpen .., fun h => absurd hn h⟩
  · rename_i hn
    exact ⟨.refl e, fun h => absurd h hn, fun _ => rfl⟩

/-- The laws on the table and the seqs when the open entries of one node have ended, and its record holds no seq. -/
theorem core_of_left {status : Status} {u : State} (hcore : Core s)
    (hentry : ∀ i, u.entry i = (finishAll status (openInOrder s n b) s).entry i) (hq : QueueLaw u)
    (hnode : ∀ m, m ≠ n → u.node m = s.node m) (hparams : (u.node n).params = (s.node n).params)
    (hcounters : (u.node n).counters.lawful)
    (hbound : ∀ b', u.bound n = some b' → b'.lawful ∧ b'.line = b.line ∧ b'.drop = b.drop ∧ b'.issuingSeq = none ∧ b'.abandoned = [])
    (hfixed : u.params = s.params ∧ u.buffer = s.buffer) : Core u := by
  have hcases : ∀ i e', u.entry i = some e' →
      ∃ e, s.entry i = some e ∧ e.DescendsTo e' ∧ (e.node = n → e'.phase.isOpen = false) ∧ (e.node ≠ n → e' = e) :=
    fun i e' he' => leaveService_entry_cases hs hb status ((hentry i).symm.trans he')
  have hd : Descends s u := ⟨fun i e' he' => by
    obtain ⟨e, he, hd, -⟩ := hcases i e' he'
    exact ⟨e, he, hd⟩, hfixed.1, hfixed.2⟩
  have hother : ∀ m, m ≠ n → u.bound m = s.bound m := fun m hm => congrArg NodeRec.bound (hnode m hm)
  have hopen : ∀ i e', u.entry i = some e' → e'.phase.isOpen = true → s.entry i = some e' ∧ e'.node ≠ n := fun i e' he' ho => by
    obtain ⟨e, he, hd, hend, hkeep⟩ := hcases i e' he'
    by_cases hen : e.node = n
    · rw [hend hen] at ho; cases ho
    · obtain rfl := hkeep hen
      exact ⟨he, hen⟩
  refine ⟨hd.follows.tableLaw hcore.table, hq, ?_, hd.bufferLaw hcore.buffer, ?_, ?_, ?_⟩
  · rw [hfixed.1]; exact (hd.committedTotal_le hcore.table).trans hcore.total
  · obtain ⟨hrec, hpos, hserved, hlive⟩ := hcore.node
    have hback : ∀ m b', u.bound m = some b' → ∃ c, s.bound m = some c ∧ b'.line = c.line ∧ b'.drop = c.drop := fun m b' hb' => by
      by_cases hm : m = n
      · subst hm
        obtain ⟨-, hl, hdr, -⟩ := hbound b' hb'
        exact ⟨b, hb, hl, hdr⟩
      · exact ⟨b', (hother m hm) ▸ hb', rfl, rfl⟩
    refine ⟨fun m => ?_, fun m k c hc d hd hl hdr => ?_, fun i e' he' ho => ?_, fun i e' he' hl => ?_⟩
    · by_cases hm : m = n
      · subst hm; exact ⟨hcounters, fun b' hb' => (hbound b' hb').1⟩
      · exact ⟨by rw [hnode m hm]; exact (hrec m).1, fun b' hb' => (hrec m).2 b' ((hother m hm) ▸ hb')⟩
    · obtain ⟨c', hc', hl1, hd1⟩ := hback m c hc
      obtain ⟨d', hd', hl2, hd2⟩ := hback k d hd
      exact hpos m k c' hc' d' hd' (by rw [← hl1, ← hl2, hl]) (by rw [← hd1, ← hd2, hdr])
    · obtain ⟨he, hne⟩ := hopen i e' he' ho
      rw [hother _ hne]; exact hserved i e' he ho
    · obtain ⟨he, hne⟩ := hopen i e' he' (Phase.isOpen_of_liveSeq hl)
      rw [hother _ hne]; exact hlive i e' he hl
  · refine hd.follows.seqLaw hcore.seq (fun m b' hb' => ?_) fun i e' he' hi => ?_
    · by_cases hm : m = n
      · subst hm
        obtain ⟨-, -, -, hnone, hempty⟩ := hbound b' hb'
        refine ⟨b, hb, by rw [hempty]; exact List.nodup_nil, .inr ⟨hnone, fun i e' he' hen => ?_⟩, by simp [hempty]⟩
        obtain ⟨e, he, hd, hend, -⟩ := hcases i e' he'
        exact Phase.issuingSeq_of_isOpen (hend (hd.node ▸ hen))
      · rw [hother m hm] at hb'
        exact ⟨b', hb', seqsFrom_of_sublist hd.follows hcore.seq hb' rfl (.refl _)⟩
    · obtain ⟨he, hne⟩ := hopen i e' he' (Phase.isOpen_of_atNode (Phase.atNode_of_issuing hi))
      obtain ⟨c, hc, -⟩ := hcore.seq.2.1 i e' he hi
      rw [hother _ hne, hc]; rfl
  · refine ⟨by rw [hfixed.1]; exact hcore.param.1, fun m => ?_⟩
    by_cases hm : m = n
    · subst hm; rw [hparams]; exact hcore.param.2 m
    · rw [hnode m hm]; exact hcore.param.2 m

end

theorem BoundNode.offlined_lawful {b : BoundNode} (h : b.lawful) : b.offlined.lawful := by
  obtain ⟨h1, h2, h3, h4, h5, -, -, -⟩ := h
  exact ⟨h1, h2, h3, h4, h5, by simp [BoundNode.offlined, Health.inService], by simp [BoundNode.offlined],
    fun _ => ⟨rfl, rfl, rfl, rfl⟩⟩

/-- The entry of a node into OFFLINE does nothing, or ends the node's open entries. -/
theorem goOffline_cases (n : NodeIx) (s : State) :
    goOffline n s = s ∨ ∃ b, s.bound n = some b ∧ b.health ≠ .offline := by
  cases hb : s.bound n with
  | none => exact .inl (goOffline_of_absent hb)
  | some b =>
    by_cases hh : b.health = .offline
    · exact .inl (goOffline_of_offline hb hh)
    · exact .inr ⟨b, rfl, hh⟩

theorem goOffline_core {s : State} (hs : Core s) (n : NodeIx) : Core (goOffline n s) := by
  rcases goOffline_cases n s with heq | ⟨b, hb, hh⟩
  · rw [heq]; exact hs
  · refine core_of_left hs.queue hb (status := .nodeOffline) hs (fun i => ?_) (goOffline_queueLaw hs.queue n) (fun m hm => ?_) ?_ ?_
      (fun b' hb' => ?_) ⟨(State.fixed_eq (goOffline_fixed n s)).1, (State.fixed_eq (goOffline_fixed n s)).2.2⟩
    · rw [goOffline_entry hs.queue hb hh, leaveService_entry hs.queue hb]
    · rw [goOffline_node hs.queue hb hh, if_neg hm]
    · rw [goOffline_node hs.queue hb hh, if_pos rfl]
    · rw [goOffline_node hs.queue hb hh, if_pos rfl]; exact (hs.node.1 n).1
    · rw [goOffline_bound hs.queue hb hh, if_pos rfl] at hb'
      obtain rfl := Option.some.inj hb'
      exact ⟨BoundNode.offlined_lawful ((hs.node.1 n).2 b hb), rfl, rfl, rfl, rfl⟩

theorem goOffline_descends {s : State} (hs : QueueLaw s) (n : NodeIx) : Descends s (goOffline n s) := by
  rcases goOffline_cases n s with heq | ⟨b, hb, hh⟩
  · rw [heq]; exact .refl s
  · refine ⟨fun i e' he' => ?_, (State.fixed_eq (goOffline_fixed n s)).1, (State.fixed_eq (goOffline_fixed n s)).2.2⟩
    rw [goOffline_entry hs hb hh, ← leaveService_entry hs hb] at he'
    obtain ⟨e, he, hd, -⟩ := leaveService_entry_cases hs hb _ he'
    exact ⟨e, he, hd⟩

theorem goOffline_portStepsTo {s : State} (hs : QueueLaw s) (n : NodeIx) (p : Port) :
    (s.port p).StepsTo ((goOffline n s).port p) := by
  rcases goOffline_cases n s with heq | ⟨b, hb, hh⟩
  · rw [heq]; exact .refl _
  · rw [goOffline_port hs hb hh]
    exact (PortRec.stepsTo_append _ _).trans (PortRec.stepsTo_raise _ _)

theorem disableNodes_core {s : State} (hs : Core s) (l : LineIx) : Core (disableNodes l s) :=
  disableNodes_induction (P := Core) (fun _ n _ h _ _ => goOffline_core h n) hs

theorem disableNodes_descends {s : State} (hs : Core s) (l : LineIx) : Descends s (disableNodes l s) :=
  (disableNodes_induction (P := fun u => Core u ∧ Descends s u)
    (fun _ n _ ⟨hc, hd⟩ _ _ => ⟨goOffline_core hc n, hd.trans (goOffline_descends hc.queue n)⟩) ⟨hs, .refl s⟩).2

theorem disableNodes_portStepsTo {s : State} (hs : Core s) (l : LineIx) (p : Port) :
    (s.port p).StepsTo ((disableNodes l s).port p) :=
  (disableNodes_induction (P := fun u => Core u ∧ (s.port p).StepsTo (u.port p))
    (fun _ n _ ⟨hc, hd⟩ _ _ => ⟨goOffline_core hc n, hd.trans (goOffline_portStepsTo hc.queue n p)⟩) ⟨hs, .refl _⟩).2

/-- Core reads nothing of the lines. -/
theorem core_modLine {s : State} (hs : Core s) (l : LineIx) (f : LineRec → LineRec) : Core (s.modLine l f) :=
  (moves_modLine s l f).core_of_rest hs rfl fun _ => rfl

theorem releaseLine_core {s : State} (hs : Core s) (l : LineIx) : Core (releaseLine l s) := by
  unfold releaseLine
  split
  · exact disableNodes_core (core_modLine hs l _) l
  · exact core_modLine hs l _
  · exact hs
  · exact hs

theorem releaseLine_descends {s : State} (hs : Core s) (l : LineIx) : Descends s (releaseLine l s) := by
  unfold releaseLine
  split
  · exact (moves_modLine s l _).toDescends.trans (disableNodes_descends (core_modLine hs l _) l)
  · exact (moves_modLine s l _).toDescends
  · exact .refl s
  · exact .refl s

theorem releaseLine_portStepsTo {s : State} (hs : Core s) (l : LineIx) (p : Port) :
    (s.port p).StepsTo ((releaseLine l s).port p) := by
  unfold releaseLine
  split
  · exact disableNodes_portStepsTo (core_modLine hs l _) l p
  · exact .refl _
  · exact .refl _
  · exact .refl _

end Sys2Proof.Machine
end

section
/-! PROOFS. The law of the lines: what it reads, the entry of a node into OFFLINE, and the release of a line whose exchange has
ended. -/

namespace Sys2Proof.Machine

/-! ## What the law reads -/

theorem State.lineViewAt_eq (s : State) (n : NodeIx) : s.lineViewAt n = (s.bound n).map fun b => b.outline.1 := by
  rw [State.lineViewAt, State.outlineAt, Option.map_map]; rfl

/-- The bound nodes of two states that show the lines the same. -/
theorem lineView_some {s u : State} {n : NodeIx} (h : u.lineViewAt n = s.lineViewAt n) {b : BoundNode} (hb : s.bound n = some b) :
    ∃ b', u.bound n = some b' ∧ b'.line = b.line ∧ b'.drop = b.drop ∧ b'.health = b.health ∧
      b'.issuingSeq = b.issuingSeq ∧ b'.pendingAck = b.pendingAck := by
  rw [State.lineViewAt_eq, State.lineViewAt_eq, hb, Option.map_some, Option.map_eq_some_iff] at h
  obtain ⟨b', hb', hv⟩ := h
  simp only [BoundNode.outline, Prod.mk.injEq] at hv
  exact ⟨b', hb', hv⟩

/-- Where the nodes differ, in the fields that the lines read, both states have the node on the line `l`. -/
def DiffersAt (l : LineIx) (s u : State) : Prop :=
  ∀ n, u.lineViewAt n = s.lineViewAt n ∨ (∀ b, s.bound n = some b → b.line = l) ∧ ∀ b, u.bound n = some b → b.line = l

theorem Exchange.addresses_congr {s u : State} {k : LineIx} {x : Exchange}
    (h : u.lineViewAt x.node = s.lineViewAt x.node) (hx : x.addresses s k) : x.addresses u k := by
  obtain ⟨b, hb, hl, hd, hk⟩ := hx
  obtain ⟨b', hb', hl', hd', hh', hi', ha'⟩ := lineView_some h hb
  refine ⟨b', hb', hl'.trans hl, hd'.trans hd, ?_⟩
  cases hkind : x.kind <;> simp only [hkind] at hk ⊢ <;> simpa only [hh', hi', ha'] using hk

theorem LineState.lawful_congr {l k : LineIx} {s u : State} (hp : u.params = s.params) (h : DiffersAt l s u) (hk : k ≠ l)
    {r : LineState} (hr : r.lawful s k) : r.lawful u k := by
  have hen : u.lineEnabled k = s.lineEnabled k := by rw [State.lineEnabled, hp]; rfl
  cases r with
  | disabled =>
    refine ⟨hen.trans hr.1, fun n b' hb' hl => ?_⟩
    rcases h n with hv | ⟨-, hu⟩
    · obtain ⟨b, hb, hl', -, hh', -⟩ := lineView_some hv.symm hb'
      rw [← hh']; exact hr.2 n b hb (hl'.trans hl)
    · exact absurd (hl.symm.trans (hu b' hb')) hk
  | idle => exact hen.trans hr
  | exchanging pend x =>
    obtain ⟨h1, h2, h3, h4, h5, h6, h7, h8⟩ := hr
    refine ⟨h1, h2, h3, h4, h5, by rw [hen]; exact h6, h7, fun ha => ?_⟩
    rcases h x.node with hv | ⟨hs, -⟩
    · exact Exchange.addresses_congr hv (h8 ha)
    · obtain ⟨b, hb, hl, -⟩ := h8 ha
      exact absurd (hl.symm.trans (hs b hb)) hk

/-! ## The entry of a node into OFFLINE -/

/-- An abandoned exchange keeps its law: it addresses nobody. -/
theorem Exchange.lawful_abandoned {s u : State} {k : LineIx} {pend : Bool} {x : Exchange} (hen : u.lineEnabled k = s.lineEnabled k)
    (h : x.lawful s k pend) : Exchange.lawful u k pend { x with abandoned := true } := by
  obtain ⟨h1, h2, h3, h4, h5, h6, -, -⟩ := h
  exact ⟨h1, h2, h3, h4, h5, by rw [hen]; exact h6, fun _ => rfl, fun ha => by cases ha⟩

section
variable {s : State} (hs : QueueLaw s) (n : NodeIx)
include hs

theorem goOffline_lineState_lawful {k : LineIx} (h : (s.line k).state.lawful s k) :
    ((goOffline n s).line k).state.lawful (goOffline n s) k := by
  rcases goOffline_cases n s with heq | ⟨b, hb, hh⟩
  · rw [heq]; exact h
  have hp : (goOffline n s).params = s.params := (State.fixed_eq (goOffline_fixed n s)).1
  have hen : (goOffline n s).lineEnabled k = s.lineEnabled k := by rw [State.lineEnabled, hp]; rfl
  rw [goOffline_line hb hh, LineState.abandonIf_node]
  cases hst : (s.line k).state with
  | disabled =>
    rw [hst] at h
    refine ⟨hen.trans h.1, fun m c hc hl => ?_⟩
    rw [goOffline_bound hs hb hh] at hc
    split at hc
    · obtain rfl := Option.some.inj hc; rfl
    · exact h.2 m c hc hl
  | idle => rw [hst] at h; exact hen.trans h
  | exchanging pend x =>
    rw [hst] at h
    by_cases hx : x.node = n
    · change Exchange.lawful _ k pend { x with abandoned := x.abandoned || x.node == n }
      rw [show (x.abandoned || x.node == n) = true by simp [hx]]
      exact Exchange.lawful_abandoned hen h
    · simp only [beq_eq_false_iff_ne.mpr hx, Bool.or_false]
      obtain ⟨h1, h2, h3, h4, h5, h6, h7, h8⟩ := h
      refine ⟨h1, h2, h3, h4, h5, by rw [hen]; exact h6, h7, fun ha => Exchange.addresses_congr ?_ (h8 ha)⟩
      rw [State.lineViewAt_eq, State.lineViewAt_eq, goOffline_bound hs hb hh, if_neg hx]

/-- A node that has an issuing seq, or is PROBING, afterwards was not touched. -/
theorem goOffline_bound_online {m : NodeIx} {c : BoundNode} (hc : (goOffline n s).bound m = some c) (hh : c.health ≠ .offline) :
    s.bound m = some c ∧ ∀ (k : LineIx) (f : Exchange → Bool),
      (s.line k).state.runs (fun x => x.node == m && f x) = true →
        ((goOffline n s).line k).state.runs (fun x => x.node == m && f x) = true := by
  rcases goOffline_cases n s with heq | ⟨b, hb, hbh⟩
  · rw [heq] at hc ⊢; exact ⟨hc, fun _ _ => id⟩
  rw [goOffline_bound hs hb hbh] at hc
  split at hc
  · obtain rfl := Option.some.inj hc; exact absurd rfl hh
  · rename_i hm
    refine ⟨hc, fun k f hr => ?_⟩
    rw [goOffline_line hb hbh, LineState.abandonIf_node]
    cases hst : (s.line k).state with
    | disabled => simp [hst, LineState.runs] at hr
    | idle => simp [hst, LineState.runs] at hr
    | exchanging pend x =>
      simp only [hst, LineState.runs, Bool.and_eq_true, beq_iff_eq, Bool.not_eq_true'] at hr ⊢
      obtain ⟨⟨hx, hf⟩, ha⟩ := hr
      have hne : (x.node == n) = false := beq_eq_false_iff_ne.mpr (hx ▸ hm)
      simp only [hne, Bool.or_false]
      exact ⟨⟨hx, hf⟩, ha⟩

end

theorem goOffline_counters (n : NodeIx) (s : State) (k : LineIx) : ((goOffline n s).line k).counters = (s.line k).counters := by
  rcases goOffline_line_cases n s k with h | h <;> rw [h]

/-- A node with an issuing seq is not OFFLINE. -/
theorem NodeLaw.issuing_online {s : State} (hs : NodeLaw s) {n : NodeIx} {b : BoundNode} {q : Seq} (hb : s.bound n = some b)
    (hq : b.issuingSeq = some q) : b.health ≠ .offline := fun hh => by
  obtain ⟨-, -, -, -, -, -, -, hoff⟩ := (hs.1 n).2 b hb
  rw [(hoff hh).2.1] at hq
  cases hq

theorem goOffline_lineLaw {s : State} (hcore : Core s) (hs : LineLaw s) (n : NodeIx) : LineLaw (goOffline n s) := by
  obtain ⟨hstate, hissuing, hprobing⟩ := hs
  refine ⟨fun k => ⟨by rw [goOffline_counters]; exact (hstate k).1, goOffline_lineState_lawful hcore.queue n (hstate k).2⟩,
    fun m c hc seq hseq => ?_, fun m c hc hh => ?_⟩
  · obtain ⟨hc', hruns⟩ := goOffline_bound_online hcore.queue n hc ((goOffline_core hcore n).node.issuing_online hc hseq)
    exact hruns _ _ (hissuing m c hc' seq hseq)
  · obtain ⟨hc', hruns⟩ := goOffline_bound_online hcore.queue n hc (by rw [hh]; simp)
    exact hruns _ _ (hprobing m c hc' hh)

/-! ## A line whose exchange has ended -/

/-- The law of the lines while the exchange of line `l` has ended and its state satisfies `P` only: no node of the line has an
issuing seq, or lacks its probe time. -/
structure LinesFree (l : LineIx) (P : LineState → Prop) (s : State) : Prop where
  counters : ∀ k, (s.line k).counters.lawful
  others : ∀ k, k ≠ l → (s.line k).state.lawful s k
  here : P (s.line l).state
  issuing : ∀ n b seq, s.bound n = some b → b.issuingSeq = some seq →
    b.line ≠ l ∧ (s.line b.line).state.runs (fun x => x.node == n && x.kind == .request seq) = true
  probing : ∀ n b, s.bound n = some b → b.health = .probing none →
    b.line ≠ l ∧ (s.line b.line).state.runs (fun x => x.node == n && x.kind == .reset) = true

theorem goOffline_linesFree {l : LineIx} {P : LineState → Prop} {s : State} (hcore : Core s) (hs : LinesFree l P s)
    (hP : ∀ r f, P r → P (r.abandonIf f)) (n : NodeIx) : LinesFree l P (goOffline n s) where
  counters := fun k => by rw [goOffline_counters]; exact hs.counters k
  others := fun k hk => goOffline_lineState_lawful hcore.queue n (hs.others k hk)
  here := by
    rcases goOffline_line_cases n s l with h | h
    · rw [h]; exact hs.here
    · rw [h]; exact hP _ _ hs.here
  issuing := fun m c seq hc hseq => by
    obtain ⟨hc', hruns⟩ := goOffline_bound_online hcore.queue n hc ((goOffline_core hcore n).node.issuing_online hc hseq)
    obtain ⟨hl, hr⟩ := hs.issuing m c seq hc' hseq
    exact ⟨hl, hruns _ _ hr⟩
  probing := fun m c hc hh => by
    obtain ⟨hc', hruns⟩ := goOffline_bound_online hcore.queue n hc (by rw [hh]; simp)
    obtain ⟨hl, hr⟩ := hs.probing m c hc' hh
    exact ⟨hl, hruns _ _ hr⟩

/-- A line state written on a free line leaves the other lines as they are. -/
theorem LinesFree.setState {l : LineIx} {P Q : LineState → Prop} {s : State} (hs : LinesFree l P s) {r : LineState} (hr : Q r) :
    LinesFree l Q (s.modLine l fun rec => { rec with state := r }) where
  counters := fun k => by
    rw [State.modLine_line]; split
    · rename_i hk; subst hk; exact hs.counters l
    · exact hs.counters k
  others := fun k hk => by
    rw [State.modLine_line, if_neg hk.symm]
    exact LineState.lawful_congr (l := l) rfl (fun n => .inl rfl) hk (hs.others k hk)
  here := by rw [State.modLine_line, if_pos rfl]; exact hr
  issuing := fun m c seq hc hseq => by
    obtain ⟨hl, hrun⟩ := hs.issuing m c seq hc hseq
    exact ⟨hl, by rw [State.modLine_line, if_neg hl.symm]; exact hrun⟩
  probing := fun m c hc hh => by
    obtain ⟨hl, hrun⟩ := hs.probing m c hc hh
    exact ⟨hl, by rw [State.modLine_line, if_neg hl.symm]; exact hrun⟩

/-- A free line with a lawful state of its own. -/
theorem LinesFree.lineLaw {l : LineIx} {P : LineState → Prop} {s : State} (hs : LinesFree l P s)
    (h : (s.line l).state.lawful s l) : LineLaw s := by
  refine ⟨fun k => ⟨hs.counters k, ?_⟩, fun n b hb seq hseq => (hs.issuing n b seq hb hseq).2, fun n b hb hh => (hs.probing n b hb hh).2⟩
  by_cases hk : k = l
  · subst hk; exact h
  · exact hs.others k hk

/-- The nodes of a line that has become DISABLED enter OFFLINE, and the law holds again (R89). -/
theorem disableNodes_lineLaw {l : LineIx} {s : State} (hcore : Core s) (hen : s.lineEnabled l = false)
    (hs : LinesFree l (· = .disabled) s) : LineLaw (disableNodes l s) := by
  have hall : Core (disableNodes l s) ∧ LinesFree l (· = .disabled) (disableNodes l s) ∧ (disableNodes l s).params = s.params :=
    disableNodes_induction (P := fun u => Core u ∧ LinesFree l (· = .disabled) u ∧ u.params = s.params)
      (fun u n b ⟨hc, hf, hp⟩ _ _ => ⟨goOffline_core hc n, goOffline_linesFree hc hf (by rintro r f rfl; rfl) n,
        (State.fixed_eq (goOffline_fixed n u)).1.trans hp⟩) ⟨hcore, hs, rfl⟩
  obtain ⟨hc, hf, hp⟩ := hall
  refine hf.lineLaw ?_
  rw [hf.here]
  refine ⟨by rw [State.lineEnabled, hp]; exact hen, fun n b hb hl => ?_⟩
  have hpos := (disableNodes_offLine (l := l) hcore.queue hcore.node.openServed).position n
  rw [hb, Option.map_some] at hpos
  obtain ⟨c, hc, hcb⟩ := Option.map_eq_some_iff.mp hpos.symm
  have hline : c.line = l := (congrArg Prod.fst hcb).trans hl
  obtain ⟨d, hd, hoff⟩ := disableNodes_offline hcore.queue
    (fun n m b c hb hc hl hd => hcore.node.2.1 n m b hb c hc hl hd) hc hline
  obtain rfl := Option.some.inj (hb.symm.trans hd)
  exact hoff

/-- A line whose exchange has ended is released lawfully. -/
theorem releaseLine_lineLaw {l : LineIx} {s : State} (hcore : Core s)
    (hs : LinesFree l (fun r => ∃ x, r = .exchanging (!s.lineEnabled l) x) s) : LineLaw (releaseLine l s) := by
  obtain ⟨x, hx⟩ := hs.here
  cases hen : s.lineEnabled l with
  | true =>
    rw [hen, Bool.not_true] at hx
    rw [releaseLine_idle hx]
    refine (hs.setState (Q := (· = .idle)) rfl).lineLaw ?_
    rw [State.modLine_line, if_pos rfl]
    exact hen
  | false =>
    rw [hen, Bool.not_false] at hx
    rw [releaseLine_disabled hx]
    exact disableNodes_lineLaw (core_modLine hcore l _) hen (hs.setState rfl)

/-! ## Where an exchange ends -/

/-- What the end of the exchange `x` of line `l` has done to the nodes when the line is released: nothing, when the exchange was
abandoned; otherwise its node, still on the line, has no issuing seq and no RESET in flight. -/
structure Settled (l : LineIx) (x : Exchange) (s u : State) : Prop where
  lines : ∀ k, (u.line k).state = (s.line k).state
  counters : ∀ k, (u.line k).counters.lawful
  params : u.params = s.params
  others : ∀ n, n ≠ x.node ∨ x.abandoned = true → u.lineViewAt n = s.lineViewAt n
  self : x.abandoned = false → ∀ b', u.bound x.node = some b' → b'.line = l ∧ b'.issuingSeq = none ∧ b'.health ≠ .probing none

theorem Settled.linesFree {l : LineIx} {x : Exchange} {pend : Bool} {s u : State} (hs : LineLaw s)
    (hx : (s.line l).state = .exchanging pend x) (h : Settled l x s u) :
    LinesFree l (fun r => ∃ x, r = .exchanging (!u.lineEnabled l) x) u := by
  obtain ⟨hstate, hissuing, hprobing⟩ := hs
  have hlaw : x.lawful s l pend := by have := (hstate l).2; rwa [hx] at this
  obtain ⟨-, -, -, -, -, hpend, -, haddr⟩ := hlaw
  have hen : u.lineEnabled l = s.lineEnabled l := by rw [State.lineEnabled, h.params]; rfl
  have hruns : ∀ (f : Exchange → Bool), (s.line l).state.runs f = true → f x = true ∧ x.abandoned = false := fun f hr => by
    simpa [hx, LineState.runs] using hr
  have hdiff : DiffersAt l s u := fun n => by
    by_cases hn : n ≠ x.node ∨ x.abandoned = true
    · exact .inl (h.others n hn)
    · simp only [ne_eq, not_or, not_not, Bool.not_eq_true] at hn
      obtain ⟨rfl, ha⟩ := hn
      obtain ⟨b, hb, hl, -⟩ := haddr ha
      refine .inr ⟨fun c hc => ?_, fun c hc => (h.self ha c hc).1⟩
      obtain rfl := Option.some.inj (hc.symm.trans hb)
      exact hl
  refine ⟨h.counters, fun k hk => ?_, ⟨x, by rw [h.lines, hx, hpend, hen]⟩, fun n b' seq hb' hseq => ?_, fun n b' hb' hh => ?_⟩
  · rw [h.lines]; exact LineState.lawful_congr h.params hdiff hk (hstate k).2
  · by_cases hn : n ≠ x.node ∨ x.abandoned = true
    · obtain ⟨b, hb, hl, -, -, hi, -⟩ := lineView_some (h.others n hn).symm hb'
      have hr := hissuing n b hb seq (hi.trans hseq)
      rw [h.lines, ← hl]
      refine ⟨fun hbl => ?_, hr⟩
      rw [hbl] at hr
      obtain ⟨hf, ha⟩ := hruns _ hr
      rcases hn with hn | hn
      · simp only [Bool.and_eq_true, beq_iff_eq] at hf; exact hn hf.1.symm
      · simp [ha] at hn
    · simp only [ne_eq, not_or, not_not, Bool.not_eq_true] at hn
      obtain ⟨rfl, ha⟩ := hn
      rw [(h.self ha b' hb').2.1] at hseq; cases hseq
  · by_cases hn : n ≠ x.node ∨ x.abandoned = true
    · obtain ⟨b, hb, hl, -, hh', -⟩ := lineView_some (h.others n hn).symm hb'
      have hr := hprobing n b hb (hh'.trans hh)
      rw [h.lines, ← hl]
      refine ⟨fun hbl => ?_, hr⟩
      rw [hbl] at hr
      obtain ⟨hf, ha⟩ := hruns _ hr
      rcases hn with hn | hn
      · simp only [Bool.and_eq_true, beq_iff_eq] at hf; exact hn hf.1.symm
      · simp [ha] at hn
    · simp only [ne_eq, not_or, not_not, Bool.not_eq_true] at hn
      obtain ⟨rfl, ha⟩ := hn
      exact absurd hh (h.self ha b' hb').2.2

/-- The law of the lines under an operation that leaves their states and what they read of the nodes. -/
theorem lineLaw_congr {s u : State} (hlines : ∀ k, (u.line k).state = (s.line k).state)
    (hcounters : ∀ k, (u.line k).counters.lawful) (hp : u.params = s.params) (hv : ∀ n, u.lineViewAt n = s.lineViewAt n)
    (hs : LineLaw s) : LineLaw u := by
  obtain ⟨hstate, hissuing, hprobing⟩ := hs
  refine ⟨fun k => ⟨hcounters k, ?_⟩, fun n b' hb' seq hseq => ?_, fun n b' hb' hh => ?_⟩
  · rw [hlines]
    exact LineState.lawful_congr (l := k + 1) hp (fun n => .inl (hv n)) (by simp) (hstate k).2
  · obtain ⟨b, hb, hl, -, -, hi, -⟩ := lineView_some (hv n).symm hb'
    rw [hlines, ← hl]; exact hissuing n b hb seq (hi.trans hseq)
  · obtain ⟨b, hb, hl, -, hh', -⟩ := lineView_some (hv n).symm hb'
    rw [hlines, ← hl]; exact hprobing n b hb (hh'.trans hh)

theorem lineLaw_congr' {s u : State} (hlines : ∀ k, u.line k = s.line k) (hp : u.params = s.params)
    (hv : ∀ n, u.lineViewAt n = s.lineViewAt n) (hs : LineLaw s) : LineLaw u :=
  lineLaw_congr (fun k => by rw [hlines]) (fun k => by rw [hlines]; exact (hs.1 k).1) hp hv hs

end Sys2Proof.Machine
end

section
/-! PROOFS. What an operation at one node leaves of the laws: `Handles` says it of every handler of an answer, of a failed
exchange and of a deadline; here for the operations on the seqs of the node and on its record. -/

namespace Sys2Proof.Machine

/-! ## Finding entries -/

theorem liveAt_some {s : State} {n : NodeIx} {q : Seq} {i : EntryIx} (h : s.liveAt n q = some i) :
    ∃ e, s.entry i = some e ∧ e.node = n ∧ e.phase.liveSeq = some q := by
  have := List.find?_some h
  simpa [State.holds_iff] using this

theorem liveAt_none {s : State} {n : NodeIx} {q : Seq} (h : s.liveAt n q = none) : q ∉ s.liveSeqs n := fun hq => by
  obtain ⟨i, e, he, hn, hl⟩ := mem_liveSeqs.mp hq
  have := List.find?_eq_none.mp h i (List.mem_finRange i)
  exact this (State.holds_iff.mpr ⟨e, he, by simp [hn, hl]⟩)

theorem issuingAt_some {s : State} {n : NodeIx} {q : Seq} {i : EntryIx} (h : s.issuingAt n q = some i) :
    ∃ e, s.entry i = some e ∧ e.node = n ∧ e.phase.issuingSeq = some q := by
  have := List.find?_some h
  simpa [State.holds_iff] using this

theorem issuingAt_none {s : State} {n : NodeIx} {q : Seq} (h : s.issuingAt n q = none) {i : EntryIx} {e : Entry}
    (he : s.entry i = some e) (hn : e.node = n) : e.phase.issuingSeq ≠ some q := fun hq => by
  have := List.find?_eq_none.mp h i (List.mem_finRange i)
  exact this (State.holds_iff.mpr ⟨e, he, by simp [hn, hq]⟩)

/-- The entry found ISSUING under a node's issuing seq is the only one ISSUING at that node. -/
theorem SeqLaw.issuing_unique {s : State} (hs : SeqLaw s) {i j : EntryIx} {e f : Entry} (he : s.entry i = some e)
    (hf : s.entry j = some f) (hi : e.phase.issuingSeq.isSome = true) (hj : f.phase.issuingSeq.isSome = true)
    (hn : f.node = e.node) : j = i := hs.2.2 j i f hf e he hj hi hn

/-- With no entry found under the issuing seq, no entry of the node is ISSUING. -/
theorem SeqLaw.no_issuing {s : State} (hs : SeqLaw s) {n : NodeIx} {b : BoundNode} {q : Seq} (hb : s.bound n = some b)
    (hq : b.issuingSeq = some q) (hnone : s.issuingAt n q = none) {i : EntryIx} {e : Entry} (he : s.entry i = some e)
    (hn : e.node = n) : e.phase.issuingSeq = none := by
  cases hi : e.phase.issuingSeq with
  | none => rfl
  | some r =>
    obtain ⟨c, hc, hcr⟩ := hs.2.1 i e he (by rw [hi]; rfl)
    rw [hn] at hc
    obtain rfl : b = c := Option.some.inj (hb.symm.trans hc)
    rw [hq, hi] at hcr
    exact absurd (hi.trans hcr.symm) (issuingAt_none hnone he hn)

/-! ## Seqs that are abandoned -/

/-- A seq live at one entry is live no more once that entry has moved on. -/
theorem notMem_liveSeqs_of_gone {s u : State} (h : Follows s u) (hs : SeqLaw s) {i : EntryIx} {e : Entry} {q : Seq}
    (he : s.entry i = some e) (hq : e.phase.liveSeq = some q) (hb : (s.bound e.node).isSome = true)
    (hgone : ∀ e', u.entry i = some e' → e'.phase.liveSeq = none) : q ∉ u.liveSeqs e.node := fun hmem => by
  obtain ⟨j, f', hf', hfn, hfq⟩ := mem_liveSeqs.mp hmem
  obtain ⟨f, hf, hd⟩ := h j f' hf'
  obtain ⟨b, hb⟩ := Option.isSome_iff_exists.mp hb
  have hnd := (nodup_usedSeqs.mp (hs.1 e.node b hb).1).1
  rw [nodup_liveSeqs] at hnd
  obtain rfl : i = j := hnd i j e f q he hf rfl (by rw [← hd.node, hfn]) hq (hd.live q hfq)
  rw [hgone f' hf'] at hfq
  cases hfq

/-- A live seq of a node that joins its abandoned set. -/
theorem seqsFrom_abandon {s u : State} (h : Follows s u) (hs : SeqLaw s) {n : NodeIx} {b b' : BoundNode} {q : Seq}
    (hb : s.bound n = some b) (hq : q ∈ s.liveSeqs n) (hgone : q ∉ u.liveSeqs n) (hi : b'.issuingSeq = b.issuingSeq)
    (ha : b'.abandoned = withSeq q b.abandoned) : SeqsFrom s u n b b' := by
  obtain ⟨-, -, hiss, hab⟩ := nodup_usedSeqs.mp (hs.1 n b hb).1
  refine ⟨ha ▸ nodup_withSeq q _, .inl hi, fun r hr => ?_⟩
  rw [ha, mem_withSeq] at hr
  rcases hr with rfl | hr
  · exact ⟨mem_usedSeqs.mpr (.inl hq), hgone, fun hri => (hiss r (hi ▸ hri)).1 hq⟩
  · exact ⟨mem_usedSeqs.mpr (.inr (.inr hr)), fun hl => hab r hr (h.liveSeqs_subset n hl), fun hri => (hiss r (hi ▸ hri)).2 hr⟩

/-- The issuing seq of a node that is given up, or joins its abandoned set, when no entry of it is ISSUING any more. -/
theorem seqsFrom_issued {s u : State} (h : Follows s u) (hs : SeqLaw s) {n : NodeIx} {b b' : BoundNode} {q : Seq}
    (hb : s.bound n = some b) (hq : b.issuingSeq = some q)
    (hgone : ∀ i e, u.entry i = some e → e.node = n → e.phase.issuingSeq = none) (hi : b'.issuingSeq = none)
    (hnd : b'.abandoned.Nodup) (ha : ∀ r ∈ b'.abandoned, r = q ∨ r ∈ b.abandoned) : SeqsFrom s u n b b' := by
  obtain ⟨-, -, hiss, hab⟩ := nodup_usedSeqs.mp (hs.1 n b hb).1
  refine ⟨hnd, .inr ⟨hi, hgone⟩, fun r hr => ⟨?_, fun hl => ?_, by simp [hi]⟩⟩
  · rcases ha r hr with rfl | hr
    · exact mem_usedSeqs.mpr (.inr (.inl hq))
    · exact mem_usedSeqs.mpr (.inr (.inr hr))
  · rcases ha r hr with rfl | hr
    · exact (hiss r hq).1 (h.liveSeqs_subset n hl)
    · exact hab r hr (h.liveSeqs_subset n hl)

/-! ## An operation at one node -/

/-- What an operation at node `n` leaves of a part that meets the laws: the laws of the table, the nodes and the seqs, the
records waiting, the ports but for new records and events, the lines, and the other nodes as the lines read them. -/
structure Handles (n : NodeIx) (s u : State) : Prop where
  core : Core u
  waiters : WaitersFrom s u
  port : ∀ p, (s.port p).StepsTo (u.port p)
  lines : ∀ k, u.line k = s.line k
  params : u.params = s.params
  others : ∀ m, m ≠ n → u.lineViewAt m = s.lineViewAt m
  self : ∀ b', u.bound n = some b' → ∃ b, s.bound n = some b ∧ b'.line = b.line ∧
    (b.issuingSeq = none → b'.issuingSeq = none) ∧ (b'.health = .probing none → b.health = .probing none)

theorem Handles.refl {n : NodeIx} {s : State} (hs : Core s) : Handles n s s :=
  ⟨hs, fun _ _ he _ => he, fun _ => .refl _, fun _ => rfl, rfl, fun _ _ => rfl, fun b' hb' => ⟨b', hb', rfl, id, id⟩⟩

theorem Handles.trans {n : NodeIx} {s t u : State} (h : Handles n s t) (k : Handles n t u) : Handles n s u where
  core := k.core
  waiters := h.waiters.trans k.waiters
  port := fun p => (h.port p).trans (k.port p)
  lines := fun l => (k.lines l).trans (h.lines l)
  params := k.params.trans h.params
  others := fun m hm => (k.others m hm).trans (h.others m hm)
  self := fun b'' hb'' => by
    obtain ⟨b', hb', hl', hi', hp'⟩ := k.self b'' hb''
    obtain ⟨b, hb, hl, hi, hp⟩ := h.self b' hb'
    exact ⟨b, hb, hl'.trans hl, hi' ∘ hi, hp ∘ hp'⟩

/-- Moves that leave the outlines of the nodes. -/
theorem Moves.handles_of_outline {n : NodeIx} {s u : State} (h : Moves s u) (hcore : Core u) (hl : ∀ k, u.line k = s.line k)
    (ho : ∀ m, u.outlineAt m = s.outlineAt m) : Handles n s u where
  core := hcore
  waiters := h.toDescends.waitersFrom
  port := h.port
  lines := hl
  params := h.params
  others := fun m _ => State.lineViewAt_of_outline (ho m)
  self := fun b' hb' => by
    obtain ⟨b, hb, hline, -, hh, hi, -⟩ := lineView_some (State.lineViewAt_of_outline (ho n)).symm hb'
    exact ⟨b, hb, hline.symm, fun h => hi ▸ h, fun h => hh.trans h⟩

/-- Moves that change one node. -/
theorem Moves.handles {n : NodeIx} {s u : State} (h : Moves s u) (hcore : Core u) (hl : ∀ k, u.line k = s.line k)
    (ho : ∀ m, m ≠ n → u.outlineAt m = s.outlineAt m)
    (hself : ∀ b b', s.bound n = some b → u.bound n = some b' → (b.issuingSeq = none → b'.issuingSeq = none) ∧
      (b'.health = .probing none → b.health = .probing none)) : Handles n s u where
  core := hcore
  waiters := h.toDescends.waitersFrom
  port := h.port
  lines := hl
  params := h.params
  others := fun m hm => State.lineViewAt_of_outline (ho m hm)
  self := fun b' hb' => by
    obtain ⟨b, hb, hstep⟩ := bound_back_of_stepsTo (h.node n) hb'
    exact ⟨b, hb, hstep.line, hself b b' hb hb'⟩

theorem finish_handles {s : State} (hs : Core s) (n : NodeIx) (status : Status) (i : EntryIx) : Handles n s (finish status i s) :=
  (moves_finish status i s).handles_of_outline (finish_core hs status i) (fun k => by simp) fun m => by simp

theorem finishAll_handles {s : State} (hs : Core s) (n : NodeIx) (status : Status) (is : List EntryIx) :
    Handles n s (finishAll status is s) :=
  (moves_finishAll status is s).handles_of_outline (finishAll_core hs status is) (fun k => by simp) fun m => by simp

theorem Returns.handles {charged : Bool} {n : NodeIx} {is : List EntryIx} {s : State} (h : Returns charged n is s) (hs : Core s) :
    Handles n s (returnToReady charged n is s) :=
  (moves_returnToReady h).handles_of_outline (h.core hs) (fun k => by simp) fun m => by simp

theorem raiseBoth_handles {s : State} (hs : Core s) (n : NodeIx) (ev : Event) : Handles n s (raiseBoth ev s) :=
  (moves_raiseBoth ev s).handles_of_outline ((moves_raiseBoth ev s).core_of_rest hs (by simp) fun m => by simp)
    (fun k => by simp) fun m => by simp

theorem raiseOn_handles {s : State} (hs : Core s) (n : NodeIx) (p : Port) (ev : Event) : Handles n s (raiseOn p ev s) :=
  (moves_raiseOn p ev s).handles_of_outline ((moves_raiseOn p ev s).core_of_rest hs (by simp) fun m => by simp)
    (fun k => by simp) fun m => by simp

theorem sampleOf_handles {s : State} (hs : Core s) (n : NodeIx) (e : Entry) : Handles n s (sampleOf e s) :=
  (moves_sampleOf e s).handles_of_outline ((moves_sampleOf e s).core_of_rest hs (by simp) fun m => by simp)
    (fun k => by simp) fun m => by simp

theorem restartDeadline_handles {s : State} (hs : Core s) (n : NodeIx) (i : EntryIx) : Handles n s (restartDeadline i s) :=
  (moves_restartDeadline i s).handles_of_outline ((moves_restartDeadline i s).core_of_rest hs (by simp) fun m => by simp)
    (fun k => by simp) fun m => by simp

/-- A change of the record of one node that neither moves an entry nor takes a seq. -/
theorem modNode_core {s : State} (hs : Core s) {n : NodeIx} {f : NodeRec → NodeRec} (hstep : (s.node n).StepsTo (f (s.node n)))
    (h : ∀ b b', s.bound n = some b → (f (s.node n)).bound = some b' → b'.issueQueue = b.issueQueue ∧
      b'.issuingSeq = b.issuingSeq ∧ b'.abandoned.Sublist b.abandoned) : Core (s.modNode n f) := by
  have hm := moves_modNode hstep
  refine hm.core hs (queueLaw_of_queues (State.modNode_queues ?_) hs.queue) (hm.follows.seqLaw_of_nodes hm.node hs.seq
    fun m b b' hb hb' => ?_)
  · have hrel := hstep.bound
    cases hb : (s.node n).bound with
    | none => rw [hb] at hrel; cases hfb : (f (s.node n)).bound with
      | none => simp [State.bound, hb]
      | some c => rw [hfb] at hrel; cases hrel
    | some b => rw [hb] at hrel; cases hfb : (f (s.node n)).bound with
      | none => rw [hfb] at hrel; cases hrel
      | some c => simp [State.bound, hb, (h b c hb hfb).1]
  · by_cases hmn : m = n
    · subst hmn
      rw [State.modNode_bound, if_pos rfl] at hb'
      obtain ⟨-, hi, ha⟩ := h b b' hb hb'
      exact seqsFrom_of_sublist hm.follows hs.seq hb hi ha
    · rw [State.modNode_bound, if_neg (Ne.symm hmn)] at hb'
      obtain rfl := Option.some.inj (hb.symm.trans hb')
      exact seqsFrom_of_sublist hm.follows hs.seq hb rfl (.refl _)

theorem modNode_handles {s : State} (hs : Core s) {n : NodeIx} {f : NodeRec → NodeRec} (hstep : (s.node n).StepsTo (f (s.node n)))
    (h : ∀ b b', s.bound n = some b → (f (s.node n)).bound = some b' → b'.issueQueue = b.issueQueue ∧
      b'.issuingSeq = b.issuingSeq ∧ b'.abandoned.Sublist b.abandoned ∧ (b'.health = .probing none → b.health = .probing none)) :
    Handles n s (s.modNode n f) := by
  refine (moves_modNode hstep).handles (modNode_core hs hstep fun b b' hb hb' => ?_) (fun k => rfl)
    (fun m hne => State.modNode_outlineAt_ne f hne) fun b b' hb hb' => ?_
  · obtain ⟨hq, hi, ha, -⟩ := h b b' hb hb'
    exact ⟨hq, hi, ha⟩
  · rw [State.modNode_bound, if_pos rfl] at hb'
    obtain ⟨-, hi, -, hp⟩ := h b b' hb hb'
    exact ⟨fun h => hi.trans h, hp⟩

theorem modBound_core {s : State} (hs : Core s) {n : NodeIx} {f : BoundNode → BoundNode}
    (hstep : ∀ b, s.bound n = some b → b.StepsTo (f b))
    (h : ∀ b, s.bound n = some b → (f b).issueQueue = b.issueQueue ∧ (f b).issuingSeq = b.issuingSeq ∧
      (f b).abandoned.Sublist b.abandoned) : Core (s.modBound n f) :=
  modNode_core hs (NodeRec.stepsTo_map hstep) fun b b' hb hb' => by
    obtain ⟨c, hc, rfl⟩ := Option.map_eq_some_iff.mp hb'
    obtain rfl : b = c := Option.some.inj (hb.symm.trans hc)
    exact h b hb

theorem modBound_handles {s : State} (hs : Core s) {n : NodeIx} {f : BoundNode → BoundNode}
    (hstep : ∀ b, s.bound n = some b → b.StepsTo (f b))
    (h : ∀ b, s.bound n = some b → (f b).issueQueue = b.issueQueue ∧ (f b).issuingSeq = b.issuingSeq ∧
      (f b).abandoned.Sublist b.abandoned ∧ ((f b).health = .probing none → b.health = .probing none)) :
    Handles n s (s.modBound n f) :=
  modNode_handles hs (NodeRec.stepsTo_map hstep) fun b b' hb hb' => by
    obtain ⟨c, hc, rfl⟩ := Option.map_eq_some_iff.mp hb'
    obtain rfl : b = c := Option.some.inj (hb.symm.trans hc)
    exact h b hb

theorem leaveAck_handles {s : State} (hs : Core s) {n : NodeIx} {ack : Ack} (hk : ack.nextOffset ≤ 256)
    (hn : ∀ b, s.bound n = some b → b.health ≠ .offline) : Handles n s (leaveAck n ack s) :=
  modBound_handles hs
    (fun b hb => ⟨rfl, rfl, id, id, fun ⟨h1, h2, h3, h4, h5, h6, _, _⟩ =>
      ⟨h1, h2, h3, h4, h5, h6, fun a ha => by obtain rfl := Option.some.inj ha; exact hk, fun hh => absurd hh (hn b hb)⟩⟩)
    fun b _ => ⟨rfl, rfl, .refl _, id⟩

end Sys2Proof.Machine
end

section
/-! PROOFS. The handlers and the laws: cancelling, the end of a REQUEST exchange, deadlines, and the counts of a node. -/

namespace Sys2Proof.Machine

/-! ## A live seq abandoned with its entry -/

theorem abandonSeq_outlineAt (n : NodeIx) (q : Seq) (s : State) (m : NodeIx) :
    (abandonSeq n q s).outlineAt m =
      if n = m then (s.outlineAt m).map fun v => (v.1, withSeq q v.2) else s.outlineAt m := by
  rw [State.outlineAt, abandonSeq, State.modBound_bound]
  split
  · rename_i h; subst h; rw [State.outlineAt, Option.map_map, Option.map_map]; rfl
  · rfl

theorem moves_abandonSeq {n : NodeIx} {q : Seq} {s : State} (hn : ∀ b, s.bound n = some b → b.health ≠ .offline) :
    Moves s (abandonSeq n q s) :=
  moves_modBound fun b hb => ⟨rfl, rfl, id, id, fun ⟨h1, h2, h3, h4, h5, h6, h7, _⟩ =>
    ⟨h1, h2, h3, h4, h5, h6, h7, fun hh => absurd hh (hn b hb)⟩⟩

@[simp] theorem abandonSeq_queues (n : NodeIx) (q : Seq) (s : State) : (abandonSeq n q s).queues = s.queues :=
  State.modBound_queues fun _ _ => rfl

theorem lineViewAt_abandonSeq (n : NodeIx) (q : Seq) (s : State) (m : NodeIx) :
    (abandonSeq n q s).lineViewAt m = s.lineViewAt m := by
  rw [State.lineViewAt, abandonSeq_outlineAt]
  split
  · rw [Option.map_map]; rfl
  · rfl

/-- An operation by which a live entry ends, or returns to READY, once its seq has been abandoned. -/
theorem handles_of_abandoned {s u : State} (hs : Core s) {i : EntryIx} {e : Entry} {q : Seq} (he : s.entry i = some e)
    (hq : e.phase.liveSeq = some q) (hm : Moves (abandonSeq e.node q s) u) (hqueue : QueueLaw u)
    (hgone : ∀ e', u.entry i = some e' → e'.phase.liveSeq = none) (hl : ∀ k, u.line k = s.line k)
    (ho : ∀ m, u.outlineAt m = (abandonSeq e.node q s).outlineAt m) : Handles e.node s u := by
  have hopen : e.phase.isOpen = true := Phase.isOpen_of_liveSeq (by rw [hq]; rfl)
  have hmoves : Moves s u := (moves_abandonSeq (hs.node.online he hopen)).trans hm
  obtain ⟨b₀, hb₀, -⟩ := hs.node.2.2.1 i e he hopen
  have hseq : SeqLaw u := hmoves.follows.seqLaw_of_nodes hmoves.node hs.seq fun n b b' hb hb' => by
    have hout := ho n
    rw [abandonSeq_outlineAt, State.outlineAt, State.outlineAt, hb, hb'] at hout
    by_cases hn : e.node = n
    · subst hn
      rw [if_pos rfl, Option.map_some, Option.map_some, Option.map_some] at hout
      obtain ⟨hv, ha⟩ := Prod.mk.inj (Option.some.inj hout)
      have hi : b'.issuingSeq = b.issuingSeq := (congrArg (fun v => v.2.2.2.1) hv :)
      exact seqsFrom_abandon hmoves.follows hs.seq hb (mem_liveSeqs.mpr ⟨i, e, he, rfl, hq⟩)
        (notMem_liveSeqs_of_gone hmoves.follows hs.seq he hq (by rw [hb]; rfl) hgone) hi ha
    · rw [if_neg hn, Option.map_some, Option.map_some] at hout
      obtain ⟨-, -, -, hi, -, ha⟩ := outline_eq (Option.some.inj hout)
      exact seqsFrom_of_sublist hmoves.follows hs.seq hb hi (ha ▸ .refl _)
  have hview : ∀ m, u.lineViewAt m = s.lineViewAt m := fun m => by
    rw [State.lineViewAt_of_outline (ho m), lineViewAt_abandonSeq]
  exact ⟨hmoves.core hs hqueue hseq, hmoves.toDescends.waitersFrom, hmoves.port, hl, hmoves.params, fun m _ => hview m,
    fun b' hb' => by
      obtain ⟨b, hb, hline, -, hh, hi, -⟩ := lineView_some (hview _).symm hb'
      exact ⟨b, hb, hline.symm, fun h => hi ▸ h, fun h => hh.trans h⟩⟩

theorem finish_entry_gone {status : Status} {i : EntryIx} {s : State} {e' : Entry} (he' : (finish status i s).entry i = some e') :
    e'.phase.isOpen = false := by
  rw [finish_entry_self, Option.map_eq_some_iff] at he'
  obtain ⟨e, -, rfl⟩ := he'
  exact Entry.ended_isOpen ..

theorem returnToReady_entry_gone {charged : Bool} {n : NodeIx} {i : EntryIx} {s : State} {e' : Entry}
    (he' : (returnToReady charged n [i] s).entry i = some e') : e'.phase = .ready := by
  rw [returnToReady_entry charged n (List.nodup_singleton i), if_pos (List.mem_singleton_self i), Option.map_eq_some_iff] at he'
  obtain ⟨e, -, rfl⟩ := he'
  rfl

/-- The CANCEL of an open entry, before admission's test (R143, R144). -/
theorem cancel_handles {s : State} (hs : Core s) {i : EntryIx} {e : Entry} (he : s.entry i = some e) :
    Handles e.node s (finish .cancelled i (abandonLive e s)) := by
  cases hq : e.phase.liveSeq with
  | none => rw [abandonLive_none s hq]; exact finish_handles hs _ _ _
  | some q =>
    have heq : abandonLive e s = abandonSeq e.node q s := abandonLive_some s hq
    rw [heq]
    exact handles_of_abandoned hs he hq (moves_finish ..)
      (finish_queueLaw (queueLaw_of_queues (abandonSeq_queues ..) hs.queue) _ _)
      (fun e' he' => Phase.liveSeq_of_isOpen (finish_entry_gone he')) (fun k => by simp [abandonSeq]) fun m => by simp

/-! ## The deadline of an entry (R102, R103) -/

theorem countTimeout_stepsTo (r : NodeRec) : r.StepsTo
    { r with
      counters := { r.counters with timeouts := bump r.counters.timeouts }
      bound := r.bound.map fun b => { b with timeouts := bumpCount b.timeouts } } where
  params := rfl
  counters := fun ⟨_, h2, h3, h4⟩ => ⟨bump_le _, h2, h3, h4⟩
  bound := (NodeRec.stepsTo_map fun b _ => BoundNode.stepsTo_timeouts fun h => by
    obtain ⟨-, -, -, h4, -⟩ := h
    rw [bumpCount_eq _ h4]; omega).bound

@[simp] theorem countTimeout_queues (n : NodeIx) (s : State) : (countTimeout n s).queues = s.queues :=
  State.modNode_queues (by rw [Option.map_map]; rfl)

@[simp] theorem countTimeout_outlineAt (n : NodeIx) (s : State) (m : NodeIx) : (countTimeout n s).outlineAt m = s.outlineAt m :=
  State.modNode_outlineAt (by rw [Option.map_map]; rfl) m

@[simp] theorem countTimeout_entry (n : NodeIx) (s : State) (i : EntryIx) : (countTimeout n s).entry i = s.entry i := rfl
@[simp] theorem countTimeout_line (n : NodeIx) (s : State) (l : LineIx) : (countTimeout n s).line l = s.line l := rfl
@[simp] theorem abandonSeq_entry (n : NodeIx) (q : Seq) (s : State) (i : EntryIx) : (abandonSeq n q s).entry i = s.entry i := rfl
@[simp] theorem abandonSeq_line (n : NodeIx) (q : Seq) (s : State) (l : LineIx) : (abandonSeq n q s).line l = s.line l := rfl

/-- A retry is left to a READ below the retry limit of its node, which is 3 at most (R19). -/
theorem retries_lt_of_retryable {s : State} (hs : ParamLaw s) {n : NodeIx} {e : Entry} (h : retryable s n e = true) :
    e.kind = .read ∧ e.retries < 3 := by
  simp only [retryable, Bool.and_eq_true, beq_iff_eq, decide_eq_true_eq] at h
  obtain ⟨-, -, -, -, -, -, -, -, hlim, -⟩ := hs.2 n
  exact ⟨h.1, h.2.trans_le hlim⟩

/-- What a deadline does to its entry, before the node enters OFFLINE (R102). -/
def expireEntry (i : EntryIx) (e : Entry) (seq : Seq) (s : State) : State :=
  let counted := countTimeout e.node (abandonSeq e.node seq s)
  if retryable s e.node e then returnToReady true e.node [i] counted else finish .timeout i counted

theorem expireDeadline_eq (i : EntryIx) (e : Entry) (seq : Seq) (s : State) :
    expireDeadline i e seq s =
      retest s (if timedOut (expireEntry i e seq s) e.node then goOffline e.node (expireEntry i e seq s)
        else expireEntry i e seq s) := rfl

theorem expireEntry_handles {s : State} (hs : Core s) {i : EntryIx} {e : Entry} {q : Seq} (he : s.entry i = some e)
    (hq : e.phase.liveSeq = some q) : Handles e.node s (expireEntry i e q s) := by
  have hopen : e.phase.isOpen = true := Phase.isOpen_of_liveSeq (by rw [hq]; rfl)
  have hat : e.phase.atNode = true := Phase.atNode_of_live (by rw [hq]; rfl)
  have hcount : Moves (abandonSeq e.node q s) (countTimeout e.node (abandonSeq e.node q s)) := moves_modNode (countTimeout_stepsTo _)
  have hqueue : QueueLaw (countTimeout e.node (abandonSeq e.node q s)) := queueLaw_of_queues (by simp) hs.queue
  unfold expireEntry
  dsimp only
  split
  · rename_i hr
    have hreturns : Returns true e.node [i] (countTimeout e.node (abandonSeq e.node q s)) :=
      ⟨List.nodup_singleton i, fun j hj => by
        obtain rfl := List.mem_singleton.mp hj
        exact ⟨e, by simpa using he, rfl, hat, fun _ => retries_lt_of_retryable hs.param hr⟩,
       fun b hb => by
        obtain ⟨c, hc, hstep⟩ := bound_back_of_stepsTo (((moves_abandonSeq (hs.node.online he hopen)).trans hcount).node e.node) hb
        exact hstep.onLine (hs.node.online he hopen c hc)⟩
    exact handles_of_abandoned hs he hq (hcount.trans (moves_returnToReady hreturns)) (hreturns.queueLaw hqueue)
      (fun e' he' => by rw [returnToReady_entry_gone he']; rfl) (fun k => by simp) fun m => by simp
  · exact handles_of_abandoned hs he hq (hcount.trans (moves_finish ..)) (finish_queueLaw hqueue _ _)
      (fun e' he' => Phase.liveSeq_of_isOpen (finish_entry_gone he')) (fun k => by simp) fun m => by simp

/-! ## The end of a REQUEST exchange -/

/-- A node whose issuing seq has gone, and its seq abandoned or free. -/
theorem handles_of_issued {s u : State} (hs : Core s) {n : NodeIx} {b : BoundNode} {q : Seq} (hb : s.bound n = some b)
    (hq : b.issuingSeq = some q) (hm : Moves s u) (hqueue : QueueLaw u) (hl : ∀ k, u.line k = s.line k)
    (hgone : ∀ i e, u.entry i = some e → e.node = n → e.phase.issuingSeq = none)
    (hother : ∀ m, m ≠ n → u.outlineAt m = s.outlineAt m)
    (hself : ∀ b', u.bound n = some b' → b'.issuingSeq = none ∧ b'.abandoned.Nodup ∧ (∀ r ∈ b'.abandoned, r = q ∨ r ∈ b.abandoned) ∧
      b'.health = b.health) :
    Handles n s u ∧ ∀ b', u.bound n = some b' → b'.issuingSeq = none := by
  have hseq : SeqLaw u := hm.follows.seqLaw_of_nodes hm.node hs.seq fun m c c' hc hc' => by
    by_cases hmn : m = n
    · subst hmn
      obtain rfl := Option.some.inj (hb.symm.trans hc)
      obtain ⟨hi, hnd, hsub, -⟩ := hself c' hc'
      exact seqsFrom_issued hm.follows hs.seq hb hq hgone hi hnd hsub
    · have hout := hother m hmn
      rw [State.outlineAt, State.outlineAt, hc, hc', Option.map_some, Option.map_some] at hout
      obtain ⟨-, -, -, hi, -, ha⟩ := outline_eq (Option.some.inj hout)
      exact seqsFrom_of_sublist hm.follows hs.seq hc hi (ha ▸ .refl _)
  refine ⟨hm.handles (hm.core hs hqueue hseq) hl hother fun c c' hc hc' => ?_, fun b' hb' => (hself b' hb').1⟩
  obtain rfl := Option.some.inj (hb.symm.trans hc)
  obtain ⟨hi, -, -, hh⟩ := hself c' hc'
  exact ⟨fun _ => hi, fun h => hh ▸ h⟩

/-- The entry of a node that is ISSUING leaves its state, so that none is. -/
theorem issuing_gone {s u : State} (h : Follows s u) (hs : SeqLaw s) {i : EntryIx} {e : Entry} (he : s.entry i = some e)
    (hq : e.phase.issuingSeq.isSome = true) (hgone : ∀ e', u.entry i = some e' → e'.phase.issuingSeq = none) :
    ∀ j f', u.entry j = some f' → f'.node = e.node → f'.phase.issuingSeq = none := fun j f' hf' hn => by
  cases hi : f'.phase.issuingSeq with
  | none => rfl
  | some r =>
    obtain ⟨f, hf, hd⟩ := h j f' hf'
    obtain rfl := hs.issuing_unique he hf hq (by rw [hd.issuing r hi]; rfl) (by rw [← hd.node, hn])
    rw [hgone f' hf'] at hi; cases hi

/-- The states in which a REQUEST exchange leaves its node: the issuing seq gone, or gone into the abandoned set. -/
structure Unissued (n : NodeIx) (q : Seq) (b : BoundNode) (s v : State) : Prop where
  moves : Moves s v
  queues : v.queues = s.queues
  entry : ∀ i, v.entry i = s.entry i
  line : ∀ k, v.line k = s.line k
  other : ∀ m, m ≠ n → v.outlineAt m = s.outlineAt m
  self : ∃ b', v.bound n = some b' ∧ b'.issuingSeq = none ∧ b'.abandoned.Nodup ∧ (∀ r ∈ b'.abandoned, r = q ∨ r ∈ b.abandoned) ∧
    b'.health = b.health

section
variable {s : State} (hs : Core s) {n : NodeIx} {b : BoundNode} {q : Seq} (hb : s.bound n = some b) (hq : b.issuingSeq = some q)
include hs hb hq

omit hq in
theorem clearIssuing_unissued : Unissued n q b s (clearIssuing n s) where
  moves := moves_modBound fun _ _ => ⟨rfl, rfl, id, id, fun ⟨h1, h2, h3, h4, h5, h6, h7, h8⟩ =>
    ⟨h1, h2, h3, h4, h5, h6, h7, fun hh => ⟨(h8 hh).1, rfl, (h8 hh).2.2⟩⟩⟩
  queues := State.modBound_queues fun _ _ => rfl
  entry := fun _ => rfl
  line := fun _ => rfl
  other := fun m hm => State.modBound_outlineAt_ne _ hm
  self := by
    have hnd := (nodup_usedSeqs.mp (hs.seq.1 n b hb).1).2.1
    exact ⟨{ b with issuingSeq := none }, by rw [clearIssuing, State.modBound_bound, if_pos rfl, hb]; rfl, rfl, hnd, fun r => .inr, rfl⟩

theorem abandonIssued_unissued : Unissued n q b s (abandonSeq n q (clearIssuing n s)) := by
  have hc := clearIssuing_unissued (q := q) hs hb
  have hcb : (clearIssuing n s).bound n = some { b with issuingSeq := none } := by
    rw [clearIssuing, State.modBound_bound, if_pos rfl, hb]; rfl
  refine ⟨hc.moves.trans (moves_abandonSeq fun c hcc => ?_), (abandonSeq_queues ..).trans hc.queues, hc.entry, hc.line,
    fun m hm => ?_, ?_⟩
  · have hon := hs.node.issuing_online hb hq
    obtain rfl := Option.some.inj (hcb.symm.trans hcc)
    exact hon
  · rw [abandonSeq_outlineAt, if_neg hm.symm]; exact hc.other m hm
  · refine ⟨{ b with issuingSeq := none, abandoned := withSeq q b.abandoned }, ?_, rfl, nodup_withSeq .., fun r hr => mem_withSeq.mp hr, rfl⟩
    rw [abandonSeq, State.modBound_bound, if_pos rfl, hcb]; rfl

theorem Unissued.handles {v u : State} (hv : Unissued n q b s v) (hm : Moves v u) (hqueue : QueueLaw u)
    (hl : ∀ k, u.line k = v.line k) (ho : ∀ m, u.outlineAt m = v.outlineAt m)
    (hgone : ∀ i e, u.entry i = some e → e.node = n → e.phase.issuingSeq = none) :
    Handles n s u ∧ ∀ b', u.bound n = some b' → b'.issuingSeq = none :=
  handles_of_issued hs hb hq (hv.moves.trans hm) hqueue (fun k => (hl k).trans (hv.line k)) hgone
    (fun m hmn => (ho m).trans (hv.other m hmn)) fun b' hb' => by
      obtain ⟨c, hc, hi, hnd, hsub, hh⟩ := hv.self
      have hout := ho n
      rw [State.outlineAt, State.outlineAt, hc, hb', Option.map_some, Option.map_some] at hout
      obtain ⟨-, -, hh', hi', -, ha'⟩ := outline_eq (Option.some.inj hout)
      exact ⟨hi'.trans hi, ha' ▸ hnd, ha' ▸ hsub, hh'.trans hh⟩

/-- No entry of the node is still ISSUING. -/
theorem Unissued.handles_none {v : State} (hv : Unissued n q b s v) (hnone : s.issuingAt n q = none) :
    Handles n s v ∧ ∀ b', v.bound n = some b' → b'.issuingSeq = none :=
  hv.handles hs hb hq (.refl v) (queueLaw_of_queues hv.queues hs.queue) (fun _ => rfl) (fun _ => rfl)
    fun i _ he hn => hs.seq.no_issuing hb hq hnone (hv.entry i ▸ he) hn

/-- The entry still ISSUING moves to DONE. -/
theorem Unissued.handles_finish {v : State} (hv : Unissued n q b s v) {i : EntryIx} (hi : s.issuingAt n q = some i)
    (status : Status) :
    Handles n s (finish status i v) ∧ ∀ b', (finish status i v).bound n = some b' → b'.issuingSeq = none := by
  obtain ⟨e, he, rfl, heq⟩ := issuingAt_some hi
  have hm := moves_finish status i v
  exact hv.handles hs hb hq hm (finish_queueLaw (queueLaw_of_queues hv.queues hs.queue) _ _) (fun k => by simp) (fun m => by simp)
    (issuing_gone (hv.moves.trans hm).follows hs.seq he (by rw [heq]; rfl)
      fun e' he' => Phase.issuingSeq_of_isOpen (finish_entry_gone he'))

/-- The entry still ISSUING returns to READY uncharged. -/
theorem Unissued.handles_return {v : State} (hv : Unissued n q b s v) {i : EntryIx} (hi : s.issuingAt n q = some i) :
    Handles n s (returnToReady false n [i] v) ∧ ∀ b', (returnToReady false n [i] v).bound n = some b' → b'.issuingSeq = none := by
  obtain ⟨e, he, rfl, heq⟩ := issuingAt_some hi
  have hreturns : Returns false e.node [i] v :=
    ⟨List.nodup_singleton i, fun j hj => by
      obtain rfl := List.mem_singleton.mp hj
      exact ⟨e, (hv.entry j).trans he, rfl, Phase.atNode_of_issuing (by rw [heq]; rfl), fun h => by cases h⟩,
     fun c hc => by
      obtain ⟨b', hb', -, -, -, hh⟩ := hv.self
      obtain rfl := Option.some.inj (hb'.symm.trans hc)
      rw [hh]; exact hs.node.issuing_online hb hq⟩
  have hm := moves_returnToReady hreturns
  exact hv.handles hs hb hq hm (hreturns.queueLaw (queueLaw_of_queues hv.queues hs.queue)) (fun k => by simp) (fun m => by simp)
    (issuing_gone (hv.moves.trans hm).follows hs.seq he (by rw [heq]; rfl)
      fun e' he' => by rw [returnToReady_entry_gone he']; rfl)

theorem requestFailed_handles :
    Handles n s (requestFailed n q s) ∧ ∀ b', (requestFailed n q s).bound n = some b' → b'.issuingSeq = none := by
  have hv := abandonIssued_unissued hs hb hq
  unfold requestFailed
  dsimp only
  split
  · exact hv.handles_none hs hb hq ‹_›
  · rename_i i hi
    obtain ⟨e, he, -⟩ := issuingAt_some hi
    simp only [he]
    split
    · exact hv.handles_return hs hb hq hi
    · exact hv.handles_finish hs hb hq hi _

/-- The start of a refuse back-off (R110). -/
theorem onRefuse_handles (reason : RefuseReason) :
    Handles n s (onRefuse n q reason s) ∧ ∀ b', (onRefuse n q reason s).bound n = some b' → b'.issuingSeq = none := by
  have hv := clearIssuing_unissued (q := q) hs hb
  have hback : ∀ {v : State} {t : Option Time}, (Handles n s v ∧ ∀ b', v.bound n = some b' → b'.issuingSeq = none) →
      Handles n s (v.modBound n fun b => { b with refuseEnd := t }) ∧
        ∀ b', (v.modBound n fun b => { b with refuseEnd := t }).bound n = some b' → b'.issuingSeq = none := fun ⟨h, hi⟩ =>
    ⟨h.trans (modBound_handles h.core (fun b _ => ⟨rfl, rfl, id, id, id⟩) fun b _ => ⟨rfl, rfl, .refl _, id⟩), fun b' hb' => by
      rw [State.modBound_bound, if_pos rfl, Option.map_eq_some_iff] at hb'
      obtain ⟨c, hc, rfl⟩ := hb'
      exact hi c hc⟩
  unfold onRefuse
  dsimp only
  split
  · split
    · exact hback (hv.handles_return hs hb hq ‹_›)
    · exact hback (hv.handles_none hs hb hq ‹_›)
  · split
    · exact hv.handles_finish hs hb hq ‹_› _
    · exact hv.handles_none hs hb hq ‹_›

end

end Sys2Proof.Machine
end

section
/-! PROOFS. The handlers and the laws: ACCEPT, and a segment placed in the buffer. -/

namespace Sys2Proof.Machine

/-! ## ACCEPT (R109) -/

theorem isProbing_false {s : State} {n : NodeIx} {b : BoundNode} (hb : s.bound n = some b) (h : s.isProbing n = false)
    (hh : b.health ≠ .offline) : b.health.inService = true := by
  rw [State.isProbing, hb, Option.any_some] at h
  cases hx : b.health <;> simp_all [Health.inService]

section
variable {s u : State} (hs : Core s) {n : NodeIx} {b : BoundNode} {q : Seq} {i : EntryIx} {e e' : Entry}
  (hb : s.bound n = some b) (hq : b.issuingSeq = some q) (he : s.entry i = some e) (hn : e.node = n)
  (hi : e.phase.issuingSeq = some q) (hn' : e'.node = n) (hl' : e'.phase.liveSeq = some q) (hi' : e'.phase.issuingSeq = none)
  (hentry : ∀ j, u.entry j = if i = j then some e' else s.entry j)
  (hbound : ∀ m, u.bound m = if n = m then some { b with issuingSeq := none } else s.bound m)
include hs hb hq he hn hi hn' hl' hi' hentry hbound

/-- The seq of the ISSUING entry becomes live with it: the seqs in use are the same. -/
theorem seqLaw_of_accepted : SeqLaw u := by
  obtain ⟨hused, hissuing, hone⟩ := hs.seq
  have hcases : ∀ {j f}, u.entry j = some f → (j = i ∧ f = e') ∨ (j ≠ i ∧ s.entry j = some f) := fun {j f} hf => by
    rw [hentry] at hf
    split at hf
    · rename_i hij; exact .inl ⟨hij.symm, (Option.some.inj hf).symm⟩
    · rename_i hij; exact .inr ⟨fun h => hij h.symm, hf⟩
  have hlive : ∀ m r, r ∈ u.liveSeqs m → r ∈ s.liveSeqs m ∨ m = n ∧ r = q := fun m r hr => by
    obtain ⟨j, f, hf, hfm, hfr⟩ := mem_liveSeqs.mp hr
    rcases hcases hf with ⟨-, rfl⟩ | ⟨-, hf⟩
    · exact .inr ⟨hfm.symm.trans hn', Option.some.inj (hfr.symm.trans hl')⟩
    · exact .inl (mem_liveSeqs.mpr ⟨j, f, hf, hfm, hfr⟩)
  have hqn := (nodup_usedSeqs.mp (hused n b hb).1).2.2.1 q hq
  have hnodup : ∀ m c, s.bound m = some c → (u.liveSeqs m).Nodup := fun m c hc => by
    have hnd := (nodup_usedSeqs.mp (hused m c hc).1).1
    rw [nodup_liveSeqs] at hnd ⊢
    intro j k f g r hf hg hfm hgm hfr hgr
    rcases hcases hf with ⟨rfl, rfl⟩ | ⟨hj, hf⟩ <;> rcases hcases hg with ⟨rfl, rfl⟩ | ⟨hk, hg⟩
    · rfl
    · obtain rfl : r = q := Option.some.inj (hfr.symm.trans hl')
      exact absurd (mem_liveSeqs.mpr ⟨k, g, hg, hgm.trans (hfm.symm.trans hn'), hgr⟩) hqn.1
    · obtain rfl : r = q := Option.some.inj (hgr.symm.trans hl')
      exact absurd (mem_liveSeqs.mpr ⟨j, f, hf, hfm.trans (hgm.symm.trans hn'), hfr⟩) hqn.1
    · exact hnd j k f g r hf hg hfm hgm hfr hgr
  have hkeep : ∀ {j f}, u.entry j = some f → f.phase.issuingSeq.isSome = true → s.entry j = some f ∧ f.node ≠ n := fun {j f} hf hsome => by
    rcases hcases hf with ⟨-, rfl⟩ | ⟨hj, hf⟩
    · rw [hi'] at hsome; cases hsome
    · exact ⟨hf, fun hfn => hj (hone j i f hf e he hsome (by rw [hi]; rfl) (hfn.trans hn.symm))⟩
  refine ⟨fun m c' hc' => ?_, fun j f hf hsome => ?_, fun j k f hf g hg hfi hgi hfg => ?_⟩
  · rw [Option.mem_def, hbound] at hc'
    split at hc'
    · rename_i hm; subst hm
      obtain rfl := Option.some.inj hc'
      obtain ⟨-, hand, hiss, hab⟩ := nodup_usedSeqs.mp (hused n b hb).1
      have hnd' : (u.usedSeqs n { b with issuingSeq := none }).Nodup :=
        nodup_usedSeqs.mpr ⟨hnodup n b hb, hand, (by simp), fun r hr hl =>
          (hlive n r hl).elim (hab r hr) fun h => hqn.2 (h.2 ▸ hr)⟩
      refine ⟨hnd', usedSeqs_of_subset (hused n b hb).2 hnd' fun r hr => ?_⟩
      rcases mem_usedSeqs.mp hr with hl | hr | hr
      · rcases hlive n r hl with hl | ⟨-, rfl⟩
        · exact mem_usedSeqs.mpr (.inl hl)
        · exact mem_usedSeqs.mpr (.inr (.inl hq))
      · cases hr
      · exact mem_usedSeqs.mpr (.inr (.inr hr))
    · rename_i hm
      obtain ⟨-, hand, hiss, hab⟩ := nodup_usedSeqs.mp (hused m c' hc').1
      have hsub : ∀ r, r ∈ u.liveSeqs m → r ∈ s.liveSeqs m := fun r hr =>
        (hlive m r hr).resolve_right fun h => hm h.1.symm
      have hnd' : (u.usedSeqs m c').Nodup := nodup_usedSeqs.mpr ⟨hnodup m c' hc', hand,
        fun r hr => ⟨fun hl => (hiss r hr).1 (hsub r hl), (hiss r hr).2⟩, fun r hr hl => hab r hr (hsub r hl)⟩
      refine ⟨hnd', usedSeqs_of_subset (hused m c' hc').2 hnd' fun r hr => ?_⟩
      rcases mem_usedSeqs.mp hr with hl | hr
      · exact mem_usedSeqs.mpr (.inl (hsub r hl))
      · exact mem_usedSeqs.mpr (.inr hr)
  · obtain ⟨hf', hne⟩ := hkeep hf hsome
    rw [hbound, if_neg (Ne.symm hne)]
    exact hissuing j f hf' hsome
  · exact hone j k f (hkeep hf hfi).1 g (hkeep hg hgi).1 hfi hgi hfg

end

section
variable {s : State} (hs : Core s) {n : NodeIx} {b : BoundNode} {q : Seq} (hb : s.bound n = some b) (hq : b.issuingSeq = some q)
include hs hb hq

theorem accepted_handles {i : EntryIx} {e : Entry} (he : s.entry i = some e) (hn : e.node = n) (hi : e.phase.issuingSeq = some q)
    (hservice : b.health.inService = true) :
    Handles n s ((clearIssuing n s).setEntry i (some (e.acceptedAt s q))) ∧
      ∀ b', ((clearIssuing n s).setEntry i (some (e.acceptedAt s q))).bound n = some b' → b'.issuingSeq = none := by
  have hv := clearIssuing_unissued (q := q) hs hb
  set u := (clearIssuing n s).setEntry i (some (e.acceptedAt s q)) with hu
  have hentry : ∀ j, u.entry j = if i = j then some (e.acceptedAt s q) else s.entry j := fun j => by
    rw [hu, State.setEntry_entry]; rfl
  have hbound : ∀ m, u.bound m = if n = m then some { b with issuingSeq := none } else s.bound m := fun m => by
    rw [hu, State.setEntry_bound, clearIssuing, State.modBound_bound, hb]
    split
    · rfl
    · rfl
  have hcases : ∀ {j f}, u.entry j = some f → (j = i ∧ f = e.acceptedAt s q) ∨ (j ≠ i ∧ s.entry j = some f) := fun {j f} hf => by
    rw [hentry] at hf
    split at hf
    · rename_i hij; exact .inl ⟨hij.symm, (Option.some.inj hf).symm⟩
    · rename_i hij; exact .inr ⟨fun h => hij h.symm, hf⟩
  have hat : e.phase.atNode = true := Phase.atNode_of_issuing (by rw [hi]; rfl)
  have hphase : e.phase = .issuing q := by cases hp : e.phase <;> simp_all
  have hlawful : e.lawful → (e.acceptedAt s q).lawful := fun ⟨h1, h2, h3, h4, h5⟩ => by
    refine ⟨h1, h2, h3, h4, ?_⟩
    rw [Entry.phaseLaw, hphase] at h5
    exact ⟨h5.1, h5.2.1, by simp [Entry.acceptedAt, h5.2.2], by simp [Entry.acceptedAt, h5.2.2]⟩
  have hview : ∀ m, m ≠ n → u.lineViewAt m = s.lineViewAt m := fun m hm => State.lineViewAt_of_outline (hv.other m hm)
  have hqueues : u.queues = s.queues := (State.setEntry_queues (s := clearIssuing n s) (e' := e.acceptedAt s q) he
    ((Entry.place_of_atNode rfl).trans (Entry.place_of_atNode hat).symm)).trans hv.queues
  have hcore : Core u := by
    refine ⟨?_, queueLaw_of_queues hqueues hs.queue, ?_, ⟨occupied_nodup_of hs.buffer.1 fun j => ?_, hs.buffer.2⟩, ?_,
      seqLaw_of_accepted (e' := e.acceptedAt s q) hs hb hq he hn hi hn rfl rfl hentry hbound, ⟨hs.param.1, fun m => ?_⟩⟩
    · refine tableLaw_of hs.table fun j f hf => ?_
      rcases hcases hf with ⟨rfl, rfl⟩ | ⟨-, hf⟩
      · exact ⟨e, he, rfl, rfl, hlawful⟩
      · exact ⟨f, hf, rfl, rfl, id⟩
    · refine (committedTotal_le fun j => ?_).trans hs.total
      rw [State.committedAt, State.committedAt, hentry]
      split
      · rename_i hij; subst hij; rw [he]; rfl
      · rfl
    · rw [State.blocksAt, State.blocksAt, hentry]
      split
      · rename_i hij; subst hij; rw [he]; exact .refl _
      · exact .refl _
    · refine nodeLaw_of hv.moves.node hs.node (fun j f hf ho => ?_) fun j f hf hl => ?_
      · rcases hcases hf with ⟨rfl, rfl⟩ | ⟨-, hf⟩
        · exact ⟨b, by rw [← hb, ← hn]; rfl, hs.node.issuing_online hb hq⟩
        · exact hs.node.2.2.1 j f hf ho
      · rcases hcases hf with ⟨rfl, rfl⟩ | ⟨-, hf⟩
        · exact ⟨b, by rw [← hb, ← hn]; rfl, hservice⟩
        · exact hs.node.2.2.2 j f hf hl
    · rw [hu, State.setEntry_node, (hv.moves.node m).params]; exact hs.param.2 m
  refine ⟨⟨hcore, fun j f hf hw => ?_, fun p => ?_, fun k => rfl, rfl, hview, fun b' hb' => ?_⟩, fun b' hb' => ?_⟩
  · rcases hcases hf with ⟨rfl, rfl⟩ | ⟨-, hf⟩
    · cases hw
    · exact hf
  · rw [hu, State.setEntry_port]; exact hv.moves.port p
  all_goals
    rw [hbound, if_pos rfl] at hb'
    obtain rfl := Option.some.inj hb'
  · exact ⟨b, hb, rfl, fun _ => rfl, id⟩
  · rfl

theorem onAccept_handles :
    Handles n s (onAccept n q s) ∧ ∀ b', (onAccept n q s).bound n = some b' → b'.issuingSeq = none := by
  have hv := abandonIssued_unissued hs hb hq
  unfold onAccept
  dsimp only
  split
  · exact hv.handles_none hs hb hq ‹_›
  · rename_i i hi
    obtain ⟨e, he, hn, hiss⟩ := issuingAt_some hi
    simp only [he]
    split
    · unfold acceptProbing
      split
      · exact hv.handles_return hs hb hq hi
      · exact hv.handles_finish hs hb hq hi _
    · rename_i hp
      exact accepted_handles hs hb hq he hn hiss (isProbing_false hb (by simpa using hp) (hs.node.issuing_online hb hq))

end

/-! ## Updates of an entry and of other parts -/

theorem State.setEntry_setEntry (s : State) (i : EntryIx) (o o' : Option Entry) : (s.setEntry i o).setEntry i o' = s.setEntry i o' := by
  simp [State.setEntry]

theorem writeEstimate_setEntry (n : NodeIx) (e spread : Nat) (s : State) (i : EntryIx) (o : Option Entry) :
    (writeEstimate n e spread s).setEntry i o = writeEstimate n e spread (s.setEntry i o) := by
  unfold writeEstimate
  exact apply_ite (fun t : State => t.setEntry i o) _ _ _

theorem takeSample_setEntry (n : NodeIx) (accepted : Time) (s : State) (i : EntryIx) (o : Option Entry) :
    (takeSample n accepted s).setEntry i o = takeSample n accepted (s.setEntry i o) := by
  unfold takeSample
  rw [State.setEntry_bound]
  split
  · rfl
  · exact writeEstimate_setEntry ..

theorem sampleOf_setEntry (e : Entry) (s : State) (i : EntryIx) (o : Option Entry) :
    (sampleOf e s).setEntry i o = sampleOf e (s.setEntry i o) := by
  unfold sampleOf
  split
  · exact takeSample_setEntry ..
  all_goals rfl

theorem leaveQueue_atNode {i : EntryIx} {e : Entry} (s : State) (h : e.phase.atNode = true) : leaveQueue i e s = s := by
  unfold leaveQueue
  split <;> simp_all [Phase.atNode]

/-- The move to DONE forgets where the entry stood at its node. -/
theorem finish_setEntry_phase {s : State} {i : EntryIx} {f f' : Entry} (hf : s.entry i = some f) (hp : f.phase.atNode = true)
    (hp' : f'.phase.atNode = true) (heq : f' = { f with phase := f'.phase }) (status : Status) :
    finish status i (s.setEntry i (some f')) = finish status i s := by
  have hf' : (s.setEntry i (some f')).entry i = some f' := by simp
  have hport : f'.port = f.port := by rw [heq]
  have hnode : f'.node = f.node := by rw [heq]
  have hfin : ∀ x, f'.finished status x = f.finished status x := fun x => by rw [heq]; unfold Entry.finished; split <;> rfl
  have hhold : holdEnd (s.setEntry i (some f')) f.port = holdEnd s f.port := holdEnd_congr rfl (by simp)
  rw [finish_of_isOpen hf (Phase.isOpen_of_atNode hp), finish_of_isOpen hf' (Phase.isOpen_of_atNode hp'), leaveQueue_atNode s hp,
    leaveQueue_atNode _ hp', State.setEntry_setEntry, hport, hnode, hfin, hhold]

/-! ## A segment placed (R38, R112) -/

/-- The blocks of a READ that takes a segment. -/
def grownBlocks (s : State) (e : Entry) (data : List Byte) : List BlockIx := e.blocks ++ s.freeBlocks.take (newBlocks e data)

/-- The part with a segment placed and its READ continued as PARTIAL until `d`. -/
def segmentStored (q : Seq) (i : EntryIx) (e : Entry) (data : List Byte) (d : Time) (s : State) : State :=
  { s with buffer := storeBytes (grownBlocks s e data) e.received (takenBytes e data) s.buffer }.setEntry i
    (some { e.withData (grownBlocks s e data) data with phase := .part q d })

theorem Phase.continued_live {r : Phase} {q : Seq} (h : r.liveSeq = some q) (d : Time) : r.continued d = .part q d := by
  cases r <;> simp_all [Phase.continued]

/-- A segment taken is one placed, then sampled, then the READ completed by the last flag, and acknowledged. -/
theorem takeSegment_eq {n : NodeIx} {q : Seq} {i : EntryIx} {e : Entry} (hq : e.phase.liveSeq = some q) (last : Bool)
    (data : List Byte) (s : State) :
    ∃ d, takeSegment n q i e last data s = leaveAck n ⟨q, e.received + (takenBytes e data).length, .accepted⟩
      (if last then finish (completionStatus (e.withData (grownBlocks s e data) data)) i (sampleOf e (segmentStored q i e data d s))
        else sampleOf e (segmentStored q i e data d s)) := by
  have hat : e.phase.atNode = true := Phase.atNode_of_live (by rw [hq]; rfl)
  refine ⟨deadlineEnd (sampleOf e ({ s with
    buffer := storeBytes (grownBlocks s e data) e.received (takenBytes e data) s.buffer }.setEntry i
      (some (e.withData (grownBlocks s e data) data)))) n, ?_⟩
  rw [segmentStored, ← State.setEntry_setEntry _ i (some (e.withData (grownBlocks s e data) data)), ← sampleOf_setEntry]
  cases last
  · rw [takeSegment]
    simp only [Bool.false_eq_true, if_false, grownBlocks]
    rw [show (e.withData (e.blocks ++ s.freeBlocks.take (newBlocks e data)) data).phase = e.phase from rfl, Phase.continued_live hq]
    rfl
  · rw [finish_setEntry_phase (f := e.withData (grownBlocks s e data) data) _ hat rfl rfl]
    · rfl
    · have hset : ∀ t : State, (sampleOf e (t.setEntry i (some (e.withData (grownBlocks s e data) data)))).entry i =
          some (e.withData (grownBlocks s e data) data) := fun t => by rw [← sampleOf_setEntry]; simp
      exact hset _

section
variable {s : State} (hs : Core s) {i : EntryIx} {e : Entry} {q : Seq} {data : List Byte} (he : s.entry i = some e)
  (hq : e.phase.liveSeq = some q) (hk : e.kind = .read) (hfree : newBlocks e data ≤ s.freeBlocks.length)
include hs he hq hk hfree

omit hs he hq in
theorem withData_lawful (h : e.lawful) (hlive : e.phase.liveSeq = some q) (d : Time) :
    Entry.lawful { e.withData (grownBlocks s e data) data with phase := .part q d } := by
  obtain ⟨hr, hbl, ht, hkind, hp⟩ := h
  have htaken : (takenBytes e data).length = min (e.length - e.received) data.length := by simp [takenBytes]
  have hnew : newBlocks e data = blocksFor (e.received + (takenBytes e data).length) - blocksFor e.received := rfl
  have hmono : blocksFor e.received ≤ blocksFor (e.received + (takenBytes e data).length) := Nat.div_le_div_right (by omega)
  refine ⟨?_, ?_, ht, ?_, ?_⟩
  · simp only [Entry.withData]; omega
  · simp only [Entry.withData, grownBlocks, List.length_append, List.length_take, Nat.min_eq_left hfree, hbl]
    omega
  · simp only [Entry.kindLaw, hk, Entry.withData] at hkind ⊢
    exact hkind
  · cases hphase : e.phase <;> simp_all [Entry.phaseLaw, Entry.withData, Entry.need]

omit hs in
theorem segmentStored_follows (d : Time) : Follows s (segmentStored q i e data d s) := fun j f hf => by
  rw [segmentStored, State.setEntry_entry] at hf
  split at hf
  · rename_i hij; subst hij
    obtain rfl := Option.some.inj hf
    refine ⟨e, he, rfl, rfl, rfl, fun h => withData_lawful hk hfree h hq d, fun _ => ?_, fun r hr => ?_, fun r hr => by cases hr⟩
    · exact Phase.isOpen_of_liveSeq (by rw [hq]; rfl)
    · obtain rfl := Option.some.inj hr; exact hq
  · exact ⟨f, hf, .refl f⟩

omit hs hk hfree in
theorem segmentStored_queues (d : Time) : (segmentStored q i e data d s).queues = s.queues := by
  have hat : e.phase.atNode = true := Phase.atNode_of_live (by rw [hq]; rfl)
  have h := State.setEntry_queues (s := s) (i := i) (e := e)
    (e' := { e.withData (grownBlocks s e data) data with phase := .part q d }) he
    ((Entry.place_of_atNode rfl).trans (Entry.place_of_atNode hat).symm)
  rw [← h]; rfl

theorem segmentStored_core (d : Time) : Core (segmentStored q i e data d s) := by
  have hfollows := segmentStored_follows he hq hk hfree d
  have hentry : ∀ j, (segmentStored q i e data d s).entry j =
      if i = j then some { e.withData (grownBlocks s e data) data with phase := .part q d } else s.entry j := fun j => by
    rw [segmentStored, State.setEntry_entry]; rfl
  refine ⟨hfollows.tableLaw hs.table, queueLaw_of_queues (segmentStored_queues he hq d) hs.queue, ?_, ⟨?_, ?_⟩,
    hfollows.nodeLaw (fun _ => .refl _) hs.node, hfollows.seqLaw_of_outline (fun _ => .refl _) hs.seq fun _ => rfl, hs.param⟩
  · refine (committedTotal_le fun j => ?_).trans hs.total
    rw [State.committedAt, State.committedAt, hentry]
    split
    · rename_i hij; subst hij; rw [he]; rfl
    · rfl
  · have hblocks : ∀ j, (segmentStored q i e data d s).blocksAt j = if i = j then grownBlocks s e data else s.blocksAt j := fun j => by
      rw [State.blocksAt, hentry]; split <;> rfl
    have hi : s.blocksAt i = e.blocks := by rw [State.blocksAt, he]; rfl
    have hpool : ∀ c ∈ s.freeBlocks.take (newBlocks e data), ∀ j, c ∉ s.blocksAt j := fun c hc j hcj => by
      have := (List.mem_filter.mp (List.mem_of_mem_take hc)).2
      simp only [Bool.not_eq_true', List.contains_eq_mem, decide_eq_false_iff_not] at this
      exact this (mem_occupied.mpr ⟨j, hcj⟩)
    have hfreend : (s.freeBlocks.take (newBlocks e data)).Nodup := (((List.nodup_finRange 96).filter _).sublist (List.take_sublist _ _))
    obtain ⟨hnd, hdis⟩ := occupied_nodup_iff.mp hs.buffer.1
    refine occupied_nodup_iff.mpr ⟨fun j => ?_, fun j k hjk => ?_⟩
    · rw [hblocks]
      split
      · refine List.nodup_append'.mpr ⟨hi ▸ hnd i, hfreend, fun c hc hc' => hpool c hc' i (hi ▸ hc)⟩
      · exact hnd j
    · rw [hblocks, hblocks]
      have hgrown : ∀ k, k ≠ i → (grownBlocks s e data).Disjoint (s.blocksAt k) := fun k hk c hc hck => by
        rcases List.mem_append.mp hc with hc | hc
        · exact hdis i k (Ne.symm hk) (hi ▸ hc) hck
        · exact hpool c hc k hck
      split
      · rename_i hij; subst hij
        rw [if_neg hjk]; exact hgrown k (Ne.symm hjk)
      · split
        · rename_i hik; subst hik; exact (hgrown j hjk).symm
        · exact hdis j k hjk
  · exact storeBytes_wf _ _ hs.buffer.2

theorem segmentStored_handles (n : NodeIx) (d : Time) : Handles n s (segmentStored q i e data d s) where
  core := segmentStored_core hs he hq hk hfree d
  waiters := fun j f hf hw => by
    rw [segmentStored, State.setEntry_entry] at hf
    split at hf
    · obtain rfl := Option.some.inj hf; cases hw
    · exact hf
  port := fun p => by rw [segmentStored, State.setEntry_port]; exact .refl _
  lines := fun _ => rfl
  params := rfl
  others := fun _ _ => rfl
  self := fun b hb => ⟨b, hb, rfl, id, id⟩

/-- A segment taken keeps the laws. -/
theorem takeSegment_handles {n : NodeIx} (hn : ∀ b, s.bound n = some b → b.health ≠ .offline) (last : Bool) :
    Handles n s (takeSegment n q i e last data s) := by
  obtain ⟨d, heq⟩ := takeSegment_eq (n := n) (i := i) hq last data s
  rw [heq]
  have hstored := segmentStored_handles hs he hq hk hfree n d
  have hsampled := hstored.trans (sampleOf_handles hstored.core n e)
  have hsettled : Handles n s (if last then
      finish (completionStatus (e.withData (grownBlocks s e data) data)) i (sampleOf e (segmentStored q i e data d s))
      else sampleOf e (segmentStored q i e data d s)) := by
    split
    · exact hsampled.trans (finish_handles hsampled.core n _ i)
    · exact hsampled
  have hlaw := withData_lawful (s := s) hk hfree (hs.table.1 i e he) hq d
  have hkind := hlaw.2.2.2.1
  refine hsettled.trans (leaveAck_handles hsettled.core ?_ fun b' hb' => ?_)
  · have h1 := hlaw.1
    simp only [Entry.kindLaw, Entry.withData, hk] at h1 hkind
    exact h1.trans hkind.2.1
  · have hmoves : Moves (segmentStored q i e data d s) (if last then
        finish (completionStatus (e.withData (grownBlocks s e data) data)) i (sampleOf e (segmentStored q i e data d s))
        else sampleOf e (segmentStored q i e data d s)) := by
      split
      · exact (moves_sampleOf ..).trans (moves_finish ..)
      · exact moves_sampleOf ..
    obtain ⟨b, hb, hstep⟩ := bound_back_of_stepsTo (hmoves.node n) hb'
    exact hstep.onLine (hn b hb)

end

end Sys2Proof.Machine
end

section
/-! PROOFS. The handlers and the laws: the other answers, an answer served at its node, and the outcome of a failed exchange. -/

namespace Sys2Proof.Machine

/-! ## SEGMENT and FAULT -/

/-- A received of a lawful entry is a next offset. -/
theorem Entry.lawful.received_le {e : Entry} (h : e.lawful) : e.received ≤ 256 := by
  obtain ⟨hr, -, -, hk, -⟩ := h
  cases hkind : e.kind <;> simp only [Entry.kindLaw, hkind] at hk <;> omega

/-- A node stays on line across moves. -/
theorem Moves.online {s u : State} (h : Moves s u) {n : NodeIx} (hn : ∀ b, s.bound n = some b → b.health ≠ .offline) :
    ∀ b, u.bound n = some b → b.health ≠ .offline := fun b' hb' => by
  obtain ⟨b, hb, hstep⟩ := bound_back_of_stepsTo (h.node n) hb'
  exact hstep.onLine (hn b hb)

section
variable {s : State} (hs : Core s) {n : NodeIx} (hn : ∀ b, s.bound n = some b → b.health ≠ .offline)
include hs

/-- A change of the times, the acknowledgement or the health of a node that is on line. -/
theorem earliestPoll_handles (t : BoundNode → Option Time) :
    Handles n s (s.modBound n fun b => { b with earliestPoll := t b }) :=
  modBound_handles hs (fun _ _ => ⟨rfl, rfl, id, id, id⟩) fun _ _ => ⟨rfl, rfl, .refl _, id⟩

include hn

theorem holdSegment_handles {i : EntryIx} {e : Entry} (he : s.entry i = some e) (q : Seq) :
    Handles n s (holdSegment n q i e s) := by
  have h1 := restartDeadline_handles hs n i
  have h2 := h1.trans (raiseOn_handles h1.core n e.port .overrun)
  have h3 := h2.trans (earliestPoll_handles h2.core fun _ => some (s.now + ticks holdBackOff))
  refine h3.trans (leaveAck_handles h3.core (hs.table.1 i e he).received_le (Moves.online (s := s) ?_ hn))
  exact ((moves_restartDeadline i s).trans (moves_raiseOn _ _ _)).trans (moves_modBound fun b _ => ⟨rfl, rfl, id, id, id⟩)

theorem dropSegment_handles {i : EntryIx} {e : Entry} (he : s.entry i = some e) (q : Seq) :
    Handles n s (dropSegment n q i e s) :=
  (restartDeadline_handles hs n i).trans (leaveAck_handles (restartDeadline_handles hs n i).core
    (hs.table.1 i e he).received_le ((moves_restartDeadline i s).online hn))

/-- A live WRITE notes surplus data. -/
theorem writeSegment_handles {i : EntryIx} {e : Entry} {q : Seq} (he : s.entry i = some e) (hq : e.phase.liveSeq = some q)
    (hk : e.kind = .write) (last : Bool) (data : List Byte) : Handles n s (writeSegment n q i e last data s) := by
  have hd : e.DescendsTo { e with flags := { e.flags with excess := e.flags.excess || !data.isEmpty } } := by
    refine ⟨⟨rfl, rfl, rfl, fun ⟨h1, h2, h3, h4, h5⟩ => ⟨h1, h2, h3, h4, ?_⟩, id, fun _ => id, fun _ => id⟩, .inl rfl,
      fun _ => le_rfl, fun hw => ?_⟩
    · cases hp : e.phase <;> simp_all [Entry.phaseLaw, Entry.need]
    · simp only at hw; rw [hw] at hq; cases hq
  have hm := moves_setEntry he hd
  have hnoted : Handles n s (s.setEntry i (some { e with flags := { e.flags with excess := e.flags.excess || !data.isEmpty } })) :=
    hm.handles_of_outline (hm.core_of_rest hs (State.setEntry_queues he (Entry.place_congr rfl rfl Iff.rfl Iff.rfl rfl)) fun _ => rfl)
      (fun _ => rfl) fun _ => rfl
  unfold writeSegment
  dsimp only
  cases last with
  | true =>
    have h1 := hnoted.trans (sampleOf_handles hnoted.core n e)
    have h2 := h1.trans (finish_handles h1.core n .ok i)
    exact h2.trans (leaveAck_handles h2.core (Nat.zero_le _)
      (((hm.trans (moves_sampleOf e _)).trans (moves_finish .ok i _)).online hn))
  | false =>
    have h1 := hnoted.trans (restartDeadline_handles hnoted.core n i)
    exact h1.trans (leaveAck_handles h1.core (Nat.zero_le _) ((hm.trans (moves_restartDeadline i _)).online hn))

theorem lateAnswer_handles (q : Seq) : Handles n s (lateAnswer n q s) := by
  have hlate := modNode_handles hs (n := n)
    (f := fun r =>
      { r with
        counters := { r.counters with late := bump r.counters.late }
        bound := r.bound.map fun b =>
          { b with abandoned := withoutSeq q b.abandoned, pendingAck := some ⟨q, 0, .discard⟩ } })
    ⟨rfl, fun ⟨h1, _, h3, h4⟩ => ⟨h1, bump_le _, h3, h4⟩,
      (NodeRec.stepsTo_map (r := s.node n) (f := fun b =>
        { b with abandoned := withoutSeq q b.abandoned, pendingAck := some ⟨q, 0, .discard⟩ }) fun b hb =>
          ⟨rfl, rfl, id, id, fun ⟨h1, h2, h3, h4, h5, h6, _, _⟩ => ⟨h1, h2, h3, h4, h5, h6,
            fun a ha => by obtain rfl := Option.some.inj ha; exact Nat.zero_le _, fun hh => absurd hh (hn b hb)⟩⟩).bound⟩
    fun b b' hb hb' => by
      obtain ⟨c, hc, rfl⟩ := Option.map_eq_some_iff.mp hb'
      obtain rfl := Option.some.inj (hb.symm.trans hc)
      exact ⟨rfl, rfl, List.filter_sublist, id⟩
  exact hlate.trans (raiseBoth_handles hlate.core n .late)

omit hn in
theorem noteUnexpected_handles : Handles n s (noteUnexpected n s) := by
  have h := modNode_handles hs (n := n)
    (f := fun r => { r with counters := { r.counters with unexpected := bump r.counters.unexpected } })
    ⟨rfl, fun ⟨h1, h2, _, h4⟩ => ⟨h1, h2, bump_le _, h4⟩, optionRel_refl BoundNode.StepsTo.refl _⟩
    fun b b' hb hb' => by
      obtain rfl := Option.some.inj (hb.symm.trans hb')
      exact ⟨rfl, rfl, .refl _, id⟩
  exact h.trans (raiseBoth_handles h.core n .unexpected)

theorem deadAnswer_handles (q : Seq) : Handles n s (deadAnswer n q s) := by
  unfold deadAnswer
  split
  · exact lateAnswer_handles hs hn q
  · have h := leaveAck_handles hs (ack := ⟨q, 0, .discard⟩) (Nat.zero_le _) hn
    exact h.trans (noteUnexpected_handles h.core)

theorem onSegment_handles (q : Seq) (last : Bool) (offset : Nat) (data : List Byte) :
    Handles n s (onSegment n q last offset data s) := by
  unfold onSegment
  split
  · exact deadAnswer_handles hs hn q
  · rename_i i hi
    obtain ⟨e, he, -, hq⟩ := liveAt_some hi
    simp only [he]
    split
    · rename_i hk
      unfold readSegment
      split
      · split
        · exact takeSegment_handles hs he hq hk ‹_› hn last
        · exact holdSegment_handles hs hn he q
      · exact dropSegment_handles hs hn he q
    · exact writeSegment_handles hs hn he hq ‹_› last data

theorem onFault_handles (q : Seq) (code : Byte) : Handles n s (onFault n q code s) := by
  unfold onFault
  split
  · exact deadAnswer_handles hs hn q
  · rename_i i hi
    obtain ⟨e, he, -⟩ := liveAt_some hi
    simp only [he]
    have h := sampleOf_handles hs n e
    exact h.trans (finish_handles h.core n _ i)

end

/-! ## PENDING -/

section
variable {s : State} (hs : Core s) {n : NodeIx} (hn : ∀ b, s.bound n = some b → b.health ≠ .offline)
include hs hn

/-- The lost entries of a node that have a retry left return to READY. -/
theorem lost_returns (listed : List Seq) :
    Returns true n ((lostEntries s n listed).filter fun i => s.holds i (retryable s n)) s where
  nodup := (((byStamp_perm s _).nodup_iff).mpr (s.nodup_entriesWhere _)).filter _
  entry := fun i hi => by
    obtain ⟨hlost, hr⟩ := List.mem_filter.mp hi
    rw [lostEntries, mem_byStamp, State.mem_entriesWhere] at hlost
    obtain ⟨e, he, hl⟩ := hlost
    obtain ⟨f, hf, hr⟩ := State.holds_iff.mp hr
    obtain rfl := Option.some.inj (he.symm.trans hf)
    simp only [Bool.and_eq_true, beq_iff_eq, Option.any_eq_true] at hl
    obtain ⟨hen, q, hq, -⟩ := hl
    exact ⟨e, he, hen, Phase.atNode_of_live (by rw [hq]; rfl), fun _ => retries_lt_of_retryable hs.param hr⟩
  node := hn

theorem settleLost_handles (listed : List Seq) : Handles n s (settleLost n listed s) :=
  ((lost_returns hs hn listed).handles hs).trans (finishAll_handles ((lost_returns hs hn listed).core hs) n _ _)

theorem onPending_handles (listed : List Seq) : Handles n s (onPending n listed s) := by
  have hdrained : Handles n s (s.modBound n fun b => { b with abandoned := b.abandoned.filter fun q => listed.contains q }) :=
    modBound_handles hs (fun b _ => ⟨rfl, rfl, id, id, fun ⟨h1, h2, h3, h4, h5, h6, h7, h8⟩ =>
      ⟨h1, h2, h3, h4, h5, h6, h7, fun hh => ⟨(h8 hh).1, (h8 hh).2.1, by simp [(h8 hh).2.2.1], (h8 hh).2.2.2⟩⟩⟩)
      fun b _ => ⟨rfl, rfl, List.filter_sublist, id⟩
  have hnd : ∀ b, (s.modBound n fun b => { b with abandoned := b.abandoned.filter fun q => listed.contains q }).bound n = some b →
      b.health ≠ .offline := fun b hb => by
    rw [State.modBound_bound, if_pos rfl, Option.map_eq_some_iff] at hb
    obtain ⟨c, hc, rfl⟩ := hb
    exact hn c hc
  have hsettled := hdrained.trans (settleLost_handles hdrained.core hnd listed)
  unfold onPending
  dsimp only
  split
  · have hnoted := hsettled.trans (noteUnexpected_handles (n := n) hsettled.core)
    exact hnoted.trans (earliestPoll_handles hnoted.core _)
  · exact hsettled.trans (earliestPoll_handles hsettled.core _)

end

/-! ## An answer served at its node (R77) -/

/-- A SUSPECT node that is ONLINE again. -/
theorem BoundNode.stepsTo_online {b : BoundNode} (h : b.health.inService = true) : b.StepsTo { b with health := .online } where
  line := rfl
  drop := rfl
  inService := fun _ => rfl
  onLine := fun _ => by simp
  lawful := fun ⟨h1, h2, h3, h4, h5, h6, h7, _⟩ => ⟨h1, h2, h3, h4, h5, fun _ => h6 h, h7, fun hh => by cases hh⟩

theorem BoundNode.stepsTo_served (b : BoundNode) (t : Time) (acked : Bool) :
    b.StepsTo { b with silence := 0, lastGood := some t, pendingAck := if acked then none else b.pendingAck } where
  line := rfl
  drop := rfl
  inService := id
  onLine := id
  lawful := fun ⟨h1, h2, _, h4, h5, h6, h7, h8⟩ => by
    refine ⟨h1, h2, Nat.zero_le _, h4, h5, h6, ?_, fun hh => ⟨(h8 hh).1, (h8 hh).2.1, (h8 hh).2.2.1, ?_⟩⟩
    · cases acked
      · exact h7
      · simp
    · cases acked
      · exact (h8 hh).2.2.2
      · rfl

theorem serveNode_handles {s : State} (hs : Core s) (x : Exchange) : Handles x.node s (serveNode x s) := by
  unfold serveNode
  split
  · exact .refl hs
  · rename_i b hb
    have hserved : Handles x.node s (s.modBound x.node fun b =>
        { b with silence := 0, lastGood := some s.now, pendingAck := if x.ack.isSome then none else b.pendingAck }) :=
      modBound_handles hs (fun b _ => b.stepsTo_served _ _) fun b _ => ⟨rfl, rfl, .refl _, id⟩
    dsimp only
    split
    · rename_i hh
      have honline := hserved.trans (modBound_handles hserved.core (n := x.node) (f := fun b => { b with health := .online })
        (fun c hc => BoundNode.stepsTo_online (by
          rw [State.modBound_bound, if_pos rfl, hb] at hc
          obtain rfl := Option.some.inj hc
          rw [show (_ : BoundNode).health = b.health from rfl, hh]; rfl))
        fun b _ => ⟨rfl, rfl, .refl _, fun h => by cases h⟩)
      exact honline.trans (raiseBoth_handles honline.core x.node .nodeChange)
    all_goals exact hserved

/-! ## IDENT (R51) -/

theorem identify_handles {s : State} (hs : Core s) {n : NodeIx} {b : BoundNode} (hb : s.bound n = some b)
    (hp : b.health.same (.probing none) = true) (cls : Byte) (window : Nat) :
    Handles n s (identify n cls window s) ∧ ∀ b', (identify n cls window s).bound n = some b' → b'.health = .online := by
  obtain ⟨t, ht⟩ : ∃ t, b.health = .probing t := by cases hh : b.health <;> simp_all [Health.same]
  have hw : 1 ≤ recordedWindow window ∧ recordedWindow window ≤ 8 := by
    rw [recordedWindow, clamp_eq (by decide)]; omega
  have hfresh : Handles n s (s.modBound n fun b =>
      { b with
        health := .online
        silence := 0
        timeouts := 0
        abandoned := []
        pendingAck := none
        earliestPoll := none
        refuseEnd := none
        nextSeq := 0
        advert := some ⟨recordedWindow window, cls⟩
        lastGood := some s.now }) :=
    modBound_handles hs (fun c _ => ⟨rfl, rfl, fun _ => rfl, fun _ => by simp, fun ⟨h1, h2, _, _, _, _, _, _⟩ =>
      ⟨h1, h2, Nat.zero_le _, Nat.zero_le _, fun a ha => by obtain rfl := Option.some.inj ha; exact hw, fun _ => rfl, by simp,
        fun hh => by cases hh⟩⟩)
      fun c _ => ⟨rfl, rfl, by simp, fun h => by cases h⟩
  unfold identify
  simp only [hb, ht]
  have hseed := hs.param.2 n
  obtain ⟨-, -, -, -, hE, hS, -⟩ := hseed
  have hm : Moves (s.modBound n _) (writeEstimate n (s.node n).params.eSeed (s.node n).params.sSeed (s.modBound n _)) :=
    moves_writeEstimate (s := s.modBound n fun b =>
      { b with
        health := .online
        silence := 0
        timeouts := 0
        abandoned := []
        pendingAck := none
        earliestPoll := none
        refuseEnd := none
        nextSeq := 0
        advert := some ⟨recordedWindow window, cls⟩
        lastGood := some s.now }) fun _ _ _ => ⟨hE, hS⟩
  have hwritten := hfresh.trans (hm.handles_of_outline (hm.core_of_rest hfresh.core (by simp) fun m => by simp)
    (fun k => by simp) fun m => by simp)
  refine ⟨hwritten.trans (raiseBoth_handles hwritten.core n .nodeChange), fun b' hb' => ?_⟩
  rw [raiseBoth_bound] at hb'
  have hview := writeEstimate_outlineAt n (s.node n).params.eSeed (s.node n).params.sSeed (s.modBound n fun b =>
      { b with
        health := .online
        silence := 0
        timeouts := 0
        abandoned := []
        pendingAck := none
        earliestPoll := none
        refuseEnd := none
        nextSeq := 0
        advert := some ⟨recordedWindow window, cls⟩
        lastGood := some s.now }) n
  rw [State.outlineAt, hb', State.outlineAt, State.modBound_bound, if_pos rfl, hb] at hview
  obtain ⟨-, -, hh, -⟩ := outline_eq (Option.some.inj hview)
  exact hh

/-! ## The outcome of a failed exchange -/

/-- A silence count that grows, and a node that becomes SUSPECT (R52, R64); entering OFFLINE comes after. -/
theorem countSilence_cases {s : State} (hs : Core s) (n : NodeIx) :
    ∃ v, Handles n s v ∧ (countSilence n s = v ∨ countSilence n s = goOffline n v) := by
  cases hb : s.bound n with
  | none => exact ⟨s, .refl hs, .inl (by simp [countSilence, hb])⟩
  | some b =>
    have hcounted : Handles n s (s.modBound n fun b' => { b' with silence := bumpCount b.silence }) := by
      refine modBound_handles hs (fun c hc => ⟨rfl, rfl, id, id, fun ⟨h1, h2, h3, h4, h5, h6, h7, h8⟩ =>
        ⟨h1, h2, ?_, h4, h5, h6, h7, h8⟩⟩) fun b _ => ⟨rfl, rfl, .refl _, id⟩
      obtain rfl := Option.some.inj (hb.symm.trans hc)
      rw [bumpCount_eq _ h3]; exact Nat.min_le_right _ _
    unfold countSilence
    simp only [hb]
    cases hh : b.health with
    | probing t => exact ⟨s, .refl hs, .inl rfl⟩
    | offline => exact ⟨s, .refl hs, .inl rfl⟩
    | suspect t =>
      by_cases hth : (s.node n).params.silenceThreshold ≤ bumpCount b.silence
      · exact ⟨_, hcounted, .inr (by simp [hth])⟩
      · exact ⟨_, hcounted, .inl (by simp [hth])⟩
    | online =>
      by_cases hth : (s.node n).params.silenceThreshold ≤ bumpCount b.silence
      · exact ⟨_, hcounted, .inr (by simp [hth])⟩
      · have hsuspect := hcounted.trans (modBound_handles hcounted.core (n := n)
          (f := fun b => { b with health := .suspect (s.now + millis s.params.suspectInterval) })
          (fun c hc => ⟨rfl, rfl, fun _ => rfl, fun _ => by simp, fun ⟨h1, h2, h3, h4, h5, h6, h7, _⟩ =>
            ⟨h1, h2, h3, h4, h5, fun _ => h6 (by
              rw [State.modBound_bound, if_pos rfl, hb] at hc
              obtain rfl := Option.some.inj hc
              rw [show (_ : BoundNode).health = b.health from rfl, hh]; rfl), h7, fun hh => by cases hh⟩⟩)
          fun c _ => ⟨rfl, rfl, .refl _, fun h => by cases h⟩)
        exact ⟨_, hsuspect.trans (raiseBoth_handles hsuspect.core n .nodeChange), .inl (by simp [hth])⟩

theorem probeFailed_handles {s : State} (hs : Core s) {n : NodeIx} {b : BoundNode} (hb : s.bound n = some b)
    (hp : b.health.same (.probing none) = true) :
    Handles n s (probeFailed n s) ∧ ∀ b', (probeFailed n s).bound n = some b' → b'.health ≠ .probing none := by
  obtain ⟨t, ht⟩ : ∃ t, b.health = .probing t := by cases hh : b.health <;> simp_all [Health.same]
  have hrec : (s.node n).bound = some b := hb
  have hnode : probeFailed n s = s.modNode n fun r =>
      { r with
        counters := { r.counters with probes := bump r.counters.probes }
        bound := some { b with health := .probing (some (s.now + millis s.params.probeInterval)) } } := by
    unfold probeFailed
    rw [State.modNode, State.modNode]
    simp only [hrec, ht]
  rw [hnode]
  refine ⟨modNode_handles hs ⟨rfl, fun ⟨h1, h2, h3, _⟩ => ⟨h1, h2, h3, bump_le _⟩, ?_⟩ fun c b' hc hb' => ?_, fun b' hb' => ?_⟩
  · rw [hrec]
    exact .some ⟨rfl, rfl, by simp [ht, Health.inService], fun _ => by simp, fun ⟨h1, h2, h3, h4, h5, _, h7, _⟩ =>
      ⟨h1, h2, h3, h4, h5, (by simp [Health.inService]), h7, (by simp)⟩⟩
  · obtain rfl := Option.some.inj (hb.symm.trans hc)
    obtain rfl := Option.some.inj hb'
    exact ⟨rfl, rfl, .refl _, fun hx => by cases hx⟩
  · rw [State.modNode_bound, if_pos rfl] at hb'
    obtain rfl := Option.some.inj hb'
    simp

end Sys2Proof.Machine
end

section
/-! PROOFS. The events of a line and the laws: the end of an attempt, of an answer and of an exchange, and the release of the
line. -/

namespace Sys2Proof.Machine

/-! ## Events -/

/-- What an event leaves of a part that meets the laws, before admission's test. -/
structure Keeps (s u : State) : Prop where
  core : Core u
  line : LineLaw u
  waiters : WaitersFrom s u
  port : ∀ p, (s.port p).StepsTo (u.port p)

theorem Keeps.trans {s t u : State} (h : Keeps s t) (k : Keeps t u) : Keeps s u :=
  ⟨k.core, k.line, h.waiters.trans k.waiters, fun p => (h.port p).trans (k.port p)⟩

theorem Keeps.refl {s : State} (hs : Core s) (hl : LineLaw s) : Keeps s s := ⟨hs, hl, fun _ _ he _ => he, fun _ => .refl _⟩

theorem portLaw_of_stepsTo {s u : State} (h : ∀ p, (s.port p).StepsTo (u.port p)) (hr : u.rstnLow = s.rstnLow) (hs : PortLaw s) :
    PortLaw u := by
  obtain ⟨ha, hb, hidle⟩ := hs
  refine ⟨(h .a).lawful ha, (h .b).lawful hb, fun hlow => ?_⟩
  have hA := h .a
  have hB := h .b
  have := hidle (hr ▸ hlow)
  exact ⟨by rw [show u.portA = u.port .a from rfl, hA.receiver, hA.csLow]; exact this.1,
    by rw [show u.portB = u.port .b from rfl, hB.receiver, hB.csLow]; exact this.2⟩

theorem retest_lineLaw {before after : State} (hs : LineLaw after) : LineLaw (retest before after) :=
  lineLaw_congr' (fun k => by simp) (State.fixed_eq (retest_fixed before after)).1
    (fun n => State.lineViewAt_of_outline (by simp)) hs

/-- An event followed by admission's test keeps every law. -/
theorem Keeps.lawful_retest {s u : State} (h : Keeps s u) (hs : Lawful s) (hr : u.rstnLow = s.rstnLow) : Lawful (retest s u) := by
  rw [lawful_iff] at hs ⊢
  obtain ⟨-, hhead, -, hport⟩ := hs
  exact ⟨retest_core h.core, retest_headWaits hhead h.core h.waiters, retest_lineLaw h.line,
    portLaw_of_stepsTo (fun p => by rw [retest_port]; exact h.port p) ((State.kept_eq (retest_kept s u)).2.1.trans hr) hport⟩

/-- An event that leaves the table, the admission queue and the parameters keeps every law without a test. -/
theorem Keeps.lawful {s u : State} (h : Keeps s u) (hs : Lawful s) (hr : u.rstnLow = s.rstnLow)
    (ht : u.committedTotal = s.committedTotal) (ha : u.admission = s.admission) (hp : u.params = s.params) : Lawful u := by
  rw [lawful_iff] at hs ⊢
  obtain ⟨-, hhead, -, hport⟩ := hs
  exact ⟨h.core, headWaits_of hhead h.core.queue h.waiters (by rw [ha]) ht.ge (by rw [hp]), h.line,
    portLaw_of_stepsTo h.port hr hport⟩

/-! ## Counting on a line -/

theorem LineCounters.lawful_count {c : LineCounters} (h : c.lawful) (f : AttemptFault) : (f.count c).lawful := by
  obtain ⟨h1, h2, h3, h4, h5⟩ := h
  cases f
  · exact ⟨h1, bump_le _, h3, h4, h5⟩
  · exact ⟨h1, h2, bump_le _, h4, h5⟩
  · exact ⟨h1, h2, h3, bump_le _, h5⟩

theorem countLine_state (l : LineIx) (f : LineCounters → LineCounters) (s : State) (k : LineIx) :
    ((countLine l f s).line k).state = (s.line k).state := by
  rw [countLine, State.modLine_line]; split
  · rename_i h; subst h; rfl
  · rfl

theorem countLine_keeps {s : State} (hs : Core s) (hl : LineLaw s) {l : LineIx} {f : LineCounters → LineCounters}
    (hf : ∀ c, c.lawful → (f c).lawful) : Keeps s (countLine l f s) where
  core := core_modLine hs l _
  line := lineLaw_congr (countLine_state l f s) (fun k => by
    rw [countLine, State.modLine_line]; split
    · exact hf _ (hl.1 l).1
    · exact (hl.1 k).1) rfl (fun _ => rfl) hl
  waiters := fun _ _ he _ => he
  port := fun p => .refl _

theorem raiseBoth_keeps {s : State} (hs : Core s) (hl : LineLaw s) (ev : Event) : Keeps s (raiseBoth ev s) where
  core := (raiseBoth_handles hs 0 ev).core
  line := lineLaw_congr' (fun k => by simp) (State.fixed_eq (raiseBoth_fixed ev s)).1
    (fun n => State.lineViewAt_of_outline (by simp)) hl
  waiters := (moves_raiseBoth ev s).toDescends.waitersFrom
  port := (moves_raiseBoth ev s).port

/-! ## The release of a line -/

/-- An operation at the node of an exchange that is not abandoned settles the exchange. -/
theorem Handles.settled {l : LineIx} {x : Exchange} {s v : State} (hl : LineLaw s) (h : Handles x.node s v)
    (haddr : x.addresses s l)
    (hself : ∀ b', v.bound x.node = some b' → b'.issuingSeq = none ∧ b'.health ≠ .probing none) (ha : x.abandoned = false) :
    Settled l x s v where
  lines := fun k => by rw [h.lines]
  counters := fun k => by rw [h.lines]; exact (hl.1 k).1
  params := h.params
  others := fun n hn => h.others n (hn.resolve_right (by simp [ha]))
  self := fun _ b' hb' => by
    obtain ⟨b, hb, hline, -⟩ := h.self b' hb'
    obtain ⟨c, hc, hcl, -⟩ := haddr
    obtain rfl := Option.some.inj (hb.symm.trans hc)
    exact ⟨hline.trans hcl, hself b' hb'⟩

theorem settled_of_abandoned {l : LineIx} {x : Exchange} {s : State} (hl : LineLaw s) (ha : x.abandoned = true) : Settled l x s s where
  lines := fun _ => rfl
  counters := fun k => (hl.1 k).1
  params := rfl
  others := fun _ _ => rfl
  self := fun h => by simp [ha] at h

section
variable {l : LineIx} {x : Exchange} {pend : Bool} {s v : State} (hl : LineLaw s)
  (hx : (s.line l).state = .exchanging pend x) (hset : Settled l x s v) (hv : Core v) (hw : WaitersFrom s v)
  (hport : ∀ p, (s.port p).StepsTo (v.port p))
include hl hx hset hv hw hport

/-- A line released when its exchange has been settled. -/
theorem releaseLine_keeps : Keeps s (releaseLine l v) :=
  ⟨releaseLine_core hv l, releaseLine_lineLaw hv (hset.linesFree hl hx), hw.trans (releaseLine_descends hv l).waitersFrom,
    fun p => (hport p).trans (releaseLine_portStepsTo hv l p)⟩

/-- A line released when the node of its exchange has entered OFFLINE. -/
theorem releaseLine_goOffline_keeps (n : NodeIx) : Keeps s (releaseLine l (goOffline n v)) := by
  have hcore := goOffline_core hv n
  have hfree := goOffline_linesFree hv (hset.linesFree hl hx) (by rintro r f ⟨x, rfl⟩; exact ⟨_, rfl⟩) n
  have hen : (goOffline n v).lineEnabled l = v.lineEnabled l := by
    rw [State.lineEnabled, (State.fixed_eq (goOffline_fixed n v)).1]; rfl
  rw [← hen] at hfree
  exact ⟨releaseLine_core hcore l, releaseLine_lineLaw hcore hfree,
    (hw.trans (goOffline_descends hv.queue n).waitersFrom).trans (releaseLine_descends hcore l).waitersFrom,
    fun p => ((hport p).trans (goOffline_portStepsTo hv.queue n p)).trans (releaseLine_portStepsTo hcore l p)⟩

end

/-! ## The node of an exchange -/

section
variable {l : LineIx} {x : Exchange} {pend : Bool} {s : State} (hl : LineLaw s)
  (hx : (s.line l).state = .exchanging pend x) (ha : x.abandoned = false)
include hl hx

theorem exchange_lawful : x.lawful s l pend := by
  have := (hl.1 l).2
  rwa [hx] at this

omit hl in
theorem runs_kind {b : BoundNode} (hbl : b.line = l) {f : Exchange → Bool} (hr : (s.line b.line).state.runs f = true) :
    f x = true := by
  rw [hbl, hx] at hr
  simp only [LineState.runs, Bool.and_eq_true] at hr
  exact hr.1

include ha

theorem exchange_addresses : x.addresses s l := (exchange_lawful hl hx).2.2.2.2.2.2.2 ha

/-- The node of an exchange of another kind than a REQUEST has no issuing seq. -/
theorem exchange_issuing (hk : ∀ q, x.kind ≠ .request q) : ∀ b, s.bound x.node = some b → b.issuingSeq = none := fun b hb => by
  obtain ⟨c, hc, hcl, -⟩ := exchange_addresses hl hx ha
  obtain rfl := Option.some.inj (hb.symm.trans hc)
  cases hq : b.issuingSeq with
  | none => rfl
  | some q =>
    have := runs_kind hx hcl (hl.2.1 x.node b hb q hq)
    simp only [Bool.and_eq_true, beq_iff_eq] at this
    exact absurd this.2 (hk q)

/-- The node of an exchange of another kind than a RESET has its probe time. -/
theorem exchange_probing (hk : x.kind ≠ .reset) : ∀ b, s.bound x.node = some b → b.health ≠ .probing none := fun b hb hh => by
  obtain ⟨c, hc, hcl, -⟩ := exchange_addresses hl hx ha
  obtain rfl := Option.some.inj (hb.symm.trans hc)
  have := runs_kind hx hcl (hl.2.2 x.node b hb hh)
  simp only [Bool.and_eq_true, beq_iff_eq] at this
  exact hk this.2

end

/-- The fields that an operation at a node leaves it with, from those it found. -/
theorem Handles.self_of {n : NodeIx} {s v : State} (h : Handles n s v) (hi : ∀ b, s.bound n = some b → b.issuingSeq = none)
    (hp : ∀ b, s.bound n = some b → b.health ≠ .probing none) :
    ∀ b', v.bound n = some b' → b'.issuingSeq = none ∧ b'.health ≠ .probing none := fun b' hb' => by
  obtain ⟨b, hb, -, hi', hp'⟩ := h.self b' hb'
  exact ⟨hi' (hi b hb), fun hh => hp b hb (hp' hh)⟩

/-! ## A failed exchange -/

/-- What the failure of an exchange does at its node, up to the node's entry into OFFLINE. -/
theorem exchangeOutcome_cases {l : LineIx} {x : Exchange} {pend : Bool} {s : State} (hs : Core s) (hl : LineLaw s)
    (hx : (s.line l).state = .exchanging pend x) (ha : x.abandoned = false) :
    ∃ v, Handles x.node s v ∧ (∀ b', v.bound x.node = some b' → b'.issuingSeq = none ∧ b'.health ≠ .probing none) ∧
      (exchangeOutcome x s = v ∨ exchangeOutcome x s = goOffline x.node v) := by
  obtain ⟨b, hb, -, -, hkind⟩ := exchange_addresses hl hx ha
  cases hk : x.kind with
  | reset =>
    rw [hk] at hkind
    obtain ⟨h, hp⟩ := probeFailed_handles hs hb hkind
    refine ⟨_, h, fun b' hb' => ⟨?_, hp b' hb'⟩, .inl (by rw [exchangeOutcome, hk])⟩
    obtain ⟨c, hc, -, hi, -⟩ := h.self b' hb'
    exact hi (exchange_issuing hl hx ha (by simp [hk]) c hc)
  | poll =>
    obtain ⟨v, h, heq⟩ := countSilence_cases hs x.node
    refine ⟨v, h, h.self_of (exchange_issuing hl hx ha (by simp [hk])) (exchange_probing hl hx ha (by simp [hk])), ?_⟩
    rw [exchangeOutcome, hk]; exact heq
  | request q =>
    rw [hk] at hkind
    obtain ⟨hw, hi⟩ := requestFailed_handles hs hb hkind.2.1
    obtain ⟨v, h, heq⟩ := countSilence_cases hw.core x.node
    refine ⟨v, hw.trans h, h.self_of hi fun c hc hh => ?_, ?_⟩
    · obtain ⟨d, hd, -, -, hp⟩ := hw.self c hc
      exact exchange_probing hl hx ha (by simp [hk]) d hd (hp hh)
    · rw [exchangeOutcome, hk]; exact heq

theorem exchangeFails_keeps {l : LineIx} {x : Exchange} {pend : Bool} {s : State} (hs : Core s) (hl : LineLaw s)
    (hx : (s.line l).state = .exchanging pend x) : Keeps s (exchangeFails l x s) := by
  unfold exchangeFails
  dsimp only
  set counted := if x.uncounted then s else countLine l (fun c => { c with failed := bump c.failed }) s with hcounted
  have hkeeps : Keeps s counted := by
    rw [hcounted]
    split
    · exact .refl hs hl
    · exact countLine_keeps hs hl fun c ⟨h1, h2, h3, h4, _⟩ => ⟨h1, h2, h3, h4, bump_le _⟩
  have hx' : (counted.line l).state = .exchanging pend x := by
    rw [hcounted]
    split
    · exact hx
    · rw [countLine_state, hx]
  cases ha : x.abandoned with
  | true =>
    exact hkeeps.trans (releaseLine_keeps hkeeps.line hx' (settled_of_abandoned hkeeps.line ha) hkeeps.core
      (fun _ _ he _ => he) fun _ => .refl _)
  | false =>
    obtain ⟨v, h, hself, heq⟩ := exchangeOutcome_cases hkeeps.core hkeeps.line hx' ha
    have hset := h.settled hkeeps.line (exchange_addresses hkeeps.line hx' ha) hself ha
    rcases heq with heq | heq
    · rw [if_neg (by simp), heq]
      exact hkeeps.trans (releaseLine_keeps hkeeps.line hx' hset h.core h.waiters h.port)
    · rw [if_neg (by simp), heq]
      exact hkeeps.trans (releaseLine_goOffline_keeps hkeeps.line hx' hset h.core h.waiters h.port x.node)

/-! ## A failed attempt -/

/-- An exchange in another attempt keeps the law of its line. -/
theorem modLine_exchange_lineLaw {l : LineIx} {x x' : Exchange} {pend : Bool} {s : State} {f : LineRec → LineRec} (hl : LineLaw s)
    (hx : (s.line l).state = .exchanging pend x) (hf : f (s.line l) = { s.line l with state := .exchanging pend x' })
    (hlaw : x.lawful s l pend → x'.lawful s l pend)
    (hsame : x'.node = x.node ∧ x'.kind = x.kind ∧ x'.abandoned = x.abandoned) : LineLaw (s.modLine l f) := by
  obtain ⟨hstate, hissuing, hprobing⟩ := hl
  have hline : ∀ k, (s.modLine l f).line k = if l = k then { s.line l with state := .exchanging pend x' } else s.line k := fun k => by
    rw [State.modLine_line, hf]
  have hruns : ∀ (k : LineIx) (n : NodeIx) (kind : FrameKind), (s.line k).state.runs (fun x => x.node == n && x.kind == kind) = true →
      ((s.modLine l f).line k).state.runs (fun x => x.node == n && x.kind == kind) = true := fun k n kind hr => by
    rw [hline]
    split
    · rename_i hk; subst hk
      rw [hx] at hr
      simpa only [LineState.runs, hsame.1, hsame.2.1, hsame.2.2] using hr
    · exact hr
  refine ⟨fun k => ?_, fun n b hb seq hseq => hruns _ _ _ (hissuing n b hb seq hseq), fun n b hb hh => hruns _ _ _ (hprobing n b hb hh)⟩
  rw [hline]
  split
  · rename_i hk; subst hk
    refine ⟨(hstate l).1, ?_⟩
    have := (hstate l).2
    rw [hx] at this
    exact hlaw this
  · rename_i hk
    exact ⟨(hstate k).1, LineState.lawful_congr (l := l) rfl (fun _ => .inl rfl) (Ne.symm hk) (hstate k).2⟩

theorem sendAgain_keeps {l : LineIx} {x : Exchange} {pend : Bool} {s : State} (hs : Core s) (hl : LineLaw s)
    (hx : (s.line l).state = .exchanging pend x) (ha : x.attempt < 3) : Keeps s (sendAgain l x s) where
  core := core_modLine hs l _
  line := by
    refine modLine_exchange_lineLaw hl hx (x' := { x with attempt := x.attempt + 1, window := s.params.responseWindow, phase := .sending })
      (by simp [hx]) (fun ⟨_, _, _, _, _, h6, h7, h8⟩ => ?_) ⟨rfl, rfl, rfl⟩
    obtain ⟨-, -, hw, hw', -⟩ := hs.param.1
    exact ⟨Nat.le_add_left .., ha, hw, hw', trivial, h6, h7, h8⟩
  waiters := fun _ _ he _ => he
  port := fun _ => .refl _

theorem setPhase_keeps {l : LineIx} {x : Exchange} {pend : Bool} {s : State} (hs : Core s) (hl : LineLaw s)
    (hx : (s.line l).state = .exchanging pend x) {phase : AttemptPhase} (hp : phase.lawful) : Keeps s (setPhase l phase s) where
  core := core_modLine hs l _
  line := modLine_exchange_lineLaw hl hx (x' := { x with phase := phase }) (by simp [hx])
    (fun ⟨h1, h2, h3, h4, _, h6, h7, h8⟩ => ⟨h1, h2, h3, h4, hp, h6, h7, h8⟩) ⟨rfl, rfl, rfl⟩
  waiters := fun _ _ he _ => he
  port := fun _ => .refl _

theorem attemptFails_keeps {l : LineIx} {x : Exchange} {pend : Bool} {s : State} (hs : Core s) (hl : LineLaw s)
    (hx : (s.line l).state = .exchanging pend x) (f : AttemptFault) : Keeps s (attemptFails f l x s) := by
  unfold attemptFails
  dsimp only
  set counted := if x.uncounted then s else raiseBoth .lineError (countLine l f.count s) with hcounted
  have hkeeps : Keeps s counted := by
    rw [hcounted]
    split
    · exact .refl hs hl
    · have h := countLine_keeps hs hl (l := l) (f := f.count) fun c hc => LineCounters.lawful_count hc f
      exact h.trans (raiseBoth_keeps h.core h.line .lineError)
  have hx' : (counted.line l).state = .exchanging pend x := by
    rw [hcounted]
    split
    · exact hx
    · rw [raiseBoth_line, countLine_state, hx]
  split
  · exact hkeeps.trans (exchangeFails_keeps hkeeps.core hkeeps.line hx')
  · split
    · exact hkeeps.trans (sendAgain_keeps hkeeps.core hkeeps.line hx' ‹_›)
    · exact hkeeps.trans (exchangeFails_keeps hkeeps.core hkeeps.line hx')

/-! ## A valid answer -/

/-- The answers that fit a frame (R75). -/
def FrameKind.fits : FrameKind → GoodAnswer → Prop
  | .reset, .ident .. => True
  | .request q, .accept r => r = q
  | .request q, .refuse r _ => r = q
  | .poll, .segment .. | .poll, .pending _ | .poll, .fault .. => True
  | _, _ => False

theorem judgeAnswer_fits {x : Exchange} {drop : Byte} {a : NodeAnswer} {g : GoodAnswer} (h : judgeAnswer x drop a = .valid g) :
    x.kind.fits g := by
  unfold judgeAnswer at h
  split at h
  · cases h
  · split at h
    case h_1 => cases h; rw [‹x.kind = _›]; trivial
    case h_2 => split at h <;> cases h; rw [‹x.kind = _›]; rfl
    case h_3 =>
      split at h
      · split at h <;> cases h; rw [‹x.kind = _›]; rfl
      · cases h
    case h_4 => split at h <;> cases h; rw [‹x.kind = _›]; trivial
    case h_5 =>
      split at h
      · split at h <;> cases h; rw [‹x.kind = _›]; trivial
      · cases h
    case h_6 => split at h <;> cases h; rw [‹x.kind = _›]; trivial
    case h_7 => cases h

theorem judgeReceived_fits {x : Exchange} {bytes : List LineByte} {g : GoodAnswer} (h : judgeReceived x bytes = .valid g) :
    x.kind.fits g := by
  unfold judgeReceived judgeAnswerBytes at h
  split at h
  · split at h
    · dsimp only at h
      split at h
      · split at h
        · exact judgeAnswer_fits h
        · cases h
      · cases h
    · cases h
  · cases h

/-- The fields of a node that an answer is served at (R77). -/
def BoundNode.served (x : Exchange) (now : Time) (b : BoundNode) : BoundNode :=
  { b with
    silence := 0
    lastGood := some now
    pendingAck := if x.ack.isSome then none else b.pendingAck
    health := match b.health with
      | .suspect _ => .online
      | .probing t => .probing t
      | .online => .online
      | .offline => .offline }

theorem serveNode_bound {x : Exchange} {s : State} {b : BoundNode} (hb : s.bound x.node = some b) :
    (serveNode x s).bound x.node = some (b.served x s.now) := by
  cases hh : b.health <;> simp [serveNode, hb, hh, State.modBound_bound, BoundNode.served]

theorem BoundNode.served_health {x : Exchange} {now : Time} {b : BoundNode} (h : b.health.same (.probing none) = true) :
    (b.served x now).health.same (.probing none) = true := by
  cases hh : b.health <;> simp_all [BoundNode.served, Health.same]

theorem BoundNode.served_offline {x : Exchange} {now : Time} {b : BoundNode} (h : b.health ≠ .offline) :
    (b.served x now).health ≠ .offline := by
  cases hh : b.health <;> simp_all [BoundNode.served]

theorem handleAnswer_handles {l : LineIx} {x : Exchange} {pend : Bool} {s : State} (hs : Core s) (hl : LineLaw s)
    (hx : (s.line l).state = .exchanging pend x) (ha : x.abandoned = false) {g : GoodAnswer} (hg : x.kind.fits g) :
    Handles x.node s (handleAnswer x.node (serveNode x s) g) ∧
      ∀ b', (handleAnswer x.node (serveNode x s) g).bound x.node = some b' → b'.issuingSeq = none ∧ b'.health ≠ .probing none := by
  obtain ⟨b, hb, -, -, hkind⟩ := exchange_addresses hl hx ha
  have hserved := serveNode_handles hs x
  have hc := serveNode_bound hb
  have hpoll : ∀ {v : State}, x.kind = .poll → Handles x.node (serveNode x s) v → Handles x.node s v ∧
      ∀ b', v.bound x.node = some b' → b'.issuingSeq = none ∧ b'.health ≠ .probing none := fun {v} hk h =>
    ⟨hserved.trans h, (hserved.trans h).self_of (exchange_issuing hl hx ha (by simp [hk])) (exchange_probing hl hx ha (by simp [hk]))⟩
  have honline : x.kind = .poll → ∀ d, (serveNode x s).bound x.node = some d → d.health ≠ .offline := fun hk d hd => by
    rw [hk] at hkind
    obtain rfl := Option.some.inj (hc.symm.trans hd)
    refine BoundNode.served_offline fun hh => ?_
    rw [hh] at hkind
    simp [Health.inService] at hkind
  have hrequest : ∀ {q : Seq} {v : State}, x.kind = .request q →
      (Handles x.node (serveNode x s) v ∧ ∀ b', v.bound x.node = some b' → b'.issuingSeq = none) → Handles x.node s v ∧
      ∀ b', v.bound x.node = some b' → b'.issuingSeq = none ∧ b'.health ≠ .probing none := fun {q v} hk ⟨h, hi⟩ =>
    ⟨hserved.trans h, fun b' hb' => ⟨hi b' hb', fun hh => by
      obtain ⟨d, hd, -, -, hp⟩ := (hserved.trans h).self b' hb'
      exact exchange_probing hl hx ha (by simp [hk]) d hd (hp hh)⟩⟩
  cases hk : x.kind with
  | reset =>
    cases g <;> simp only [hk, FrameKind.fits] at hg
    rename_i cls window
    rw [hk] at hkind
    obtain ⟨h, hon⟩ := identify_handles hserved.core hc (BoundNode.served_health hkind) cls window
    refine ⟨hserved.trans h, fun b' hb' => ⟨?_, by rw [hon b' hb']; simp⟩⟩
    obtain ⟨d, hd, -, hi, -⟩ := (hserved.trans h).self b' hb'
    exact hi (exchange_issuing hl hx ha (by simp [hk]) d hd)
  | request q =>
    rw [hk] at hkind
    have hcq : (b.served x s.now).issuingSeq = some q := hkind.2.1
    cases g <;> simp only [hk, FrameKind.fits] at hg
    · subst hg; exact hrequest hk (onAccept_handles hserved.core hc hcq)
    · subst hg; exact hrequest hk (onRefuse_handles hserved.core hc hcq _)
  | poll =>
    cases g <;> simp only [hk, FrameKind.fits] at hg
    · exact hpoll hk (onSegment_handles hserved.core (honline hk) ..)
    · exact hpoll hk (onPending_handles hserved.core (honline hk) _)
    · exact hpoll hk (onFault_handles hserved.core (honline hk) ..)

theorem answerValid_keeps {l : LineIx} {x : Exchange} {pend : Bool} {s : State} (hs : Core s) (hl : LineLaw s)
    (hx : (s.line l).state = .exchanging pend x) {g : GoodAnswer} (hg : x.kind.fits g) : Keeps s (answerValid l x g s) := by
  unfold answerValid
  dsimp only
  set counted := if x.uncounted then s else countLine l (fun c => { c with exchanges := bump c.exchanges }) s with hcounted
  have hkeeps : Keeps s counted := by
    rw [hcounted]
    split
    · exact .refl hs hl
    · exact countLine_keeps hs hl fun c ⟨_, h2, h3, h4, h5⟩ => ⟨bump_le _, h2, h3, h4, h5⟩
  have hx' : (counted.line l).state = .exchanging pend x := by
    rw [hcounted]
    split
    · exact hx
    · rw [countLine_state, hx]
  cases ha : x.abandoned with
  | true =>
    exact hkeeps.trans (releaseLine_keeps hkeeps.line hx' (settled_of_abandoned hkeeps.line ha) hkeeps.core
      (fun _ _ he _ => he) fun _ => .refl _)
  | false =>
    obtain ⟨h, hself⟩ := handleAnswer_handles hkeeps.core hkeeps.line hx' ha hg
    exact hkeeps.trans (releaseLine_keeps hkeeps.line hx'
      (h.settled hkeeps.line (exchange_addresses hkeeps.line hx' ha) hself ha) h.core h.waiters h.port)

theorem endAnswer_keeps {l : LineIx} {x : Exchange} {pend : Bool} {s : State} (hs : Core s) (hl : LineLaw s)
    (hx : (s.line l).state = .exchanging pend x) (bytes : List LineByte) :
    Keeps s (endAnswer l x s (judgeReceived x bytes)) := by
  cases hv : judgeReceived x bytes with
  | valid g => exact answerValid_keeps hs hl hx (judgeReceived_fits hv)
  | frameCheck => exact attemptFails_keeps hs hl hx .frameCheck
  | mismatch => exact attemptFails_keeps hs hl hx .mismatch

end Sys2Proof.Machine
end

section
/-! PROOFS. The candidates of the nodes, the arbiter's search and the grants (sections 4.2 and 4.3). -/

namespace Sys2Proof.Machine

/-- Two changes that agree on the node's fields. -/
theorem State.modBound_congr {s : State} {n : NodeIx} {f g : BoundNode → BoundNode} (h : ∀ b, s.bound n = some b → f b = g b) :
    s.modBound n f = s.modBound n g := by
  have hmap : (s.node n).bound.map f = (s.node n).bound.map g := Option.map_congr fun b hb => h b hb
  simp only [State.modBound, State.modNode, hmap]

/-! ## Candidates -/

theorem running_isNone {now : Time} {field : Option Time} : (running now field).isNone = true ↔ ¬stillRuns now field := by
  rw [Option.isNone_iff_eq_none, Option.eq_none_iff_forall_not_mem, stillRuns]
  simp only [mem_running, not_exists]

theorem firstPollDue_or_hasPartial {s : State} {n : NodeIx} :
    (firstPollDue s n || hasPartial s n) = true ↔ awaitsData s n := by
  simp only [Bool.or_eq_true, firstPollDue, hasPartial, List.any_eq_true, State.holds_iff, allEntries, List.mem_finRange,
    true_and, awaitsData, Option.mem_def]
  constructor
  · rintro (⟨i, e, he, h⟩ | ⟨i, e, he, h⟩)
    · cases hp : e.phase <;> simp only [hp, Bool.and_eq_true, beq_iff_eq, decide_eq_true_eq] at h <;> try cases h
      exact ⟨i, e, he, ‹_›, .inl ⟨_, _, _, _, hp, ‹_›⟩⟩
    · cases hp : e.phase <;> simp only [hp, beq_iff_eq] at h <;> try cases h
      exact ⟨i, e, he, rfl, .inr ⟨_, _, hp⟩⟩
  · rintro ⟨i, e, he, hn, ⟨q, d, f, a, hp, hf⟩ | ⟨q, d, hp⟩⟩
    · exact .inl ⟨i, e, he, by simp [hp, hn, hf]⟩
    · exact .inr ⟨i, e, he, by simp [hp, hn]⟩

theorem pollReason_iff {s : State} {n : NodeIx} {b : BoundNode} (h : b.health.inService = true) :
    pollReason s n b = true ↔ presentsPoll s n b := by
  have hgate : ((running s.now b.earliestPoll).isNone &&
        (b.pendingAck.isSome || firstPollDue s n || hasPartial s n || !b.abandoned.isEmpty)) = true ↔
      ¬stillRuns s.now b.earliestPoll ∧ (b.pendingAck.isSome = true ∨ awaitsData s n ∨ b.abandoned ≠ []) := by
    rw [Bool.and_eq_true, running_isNone, Bool.or_assoc, Bool.or_assoc, ← Bool.or_assoc (firstPollDue s n), Bool.or_eq_true,
      Bool.or_eq_true, firstPollDue_or_hasPartial]
    simp
  rw [pollReason, Bool.or_eq_true, hgate, presentsPoll]
  cases hh : b.health <;> simp_all [Health.inService]

theorem inUse_eq (s : State) (n : NodeIx) (b : BoundNode) : s.inUse n b = (s.usedSeqs n b).length := by
  cases h : b.issuingSeq <;> simp [State.inUse, State.usedSeqs, h]
  omega

theorem requestOpen_iff {s : State} {n : NodeIx} {b : BoundNode} :
    requestOpen s n b = true ↔ b.issueQueue ≠ [] ∧ b.issuingSeq = none ∧ ¬stillRuns s.now b.refuseEnd ∧
      ∃ a ∈ b.advert, (s.usedSeqs n b).length < (s.node n).params.window ∧ (s.usedSeqs n b).length < a.window := by
  unfold requestOpen
  cases ha : b.advert with
  | none => simp
  | some a =>
    simp only [Bool.and_eq_true, Bool.not_eq_true', List.isEmpty_eq_false_iff, Option.isNone_iff_eq_none, decide_eq_true_eq,
      inUse_eq, effectiveWindow, lt_min_iff, ← running_isNone, Option.mem_def, Option.some.injEq, exists_eq_left', ne_eq]
    tauto

/-- What a node presents, by the class order RESET, POLL, REQUEST (R82, R83). -/
theorem candidate_eq_reset {s : State} {n : NodeIx} {b : BoundNode} : candidate s n b = some .reset ↔ presentsReset s b := by
  unfold candidate presentsReset
  cases hh : b.health with
  | probing t => cases t <;> simp
  | online => simp only []; split <;> [simp; (split <;> simp)]
  | suspect c => simp only []; split <;> simp
  | offline => simp

theorem candidate_eq_poll {s : State} {n : NodeIx} {b : BoundNode} : candidate s n b = some .poll ↔ presentsPoll s n b := by
  have hout : b.health.inService = false → ¬presentsPoll s n b := fun h hp => by
    rcases hp with ⟨hs, -⟩ | ⟨c, hc, -⟩
    · rw [h] at hs; cases hs
    · rw [hc] at h; cases h
  cases hs : b.health.inService with
  | false =>
    refine ⟨fun h => ?_, fun h => absurd h (hout hs)⟩
    unfold candidate at h
    cases hh : b.health with
    | probing t => cases t <;> simp [hh] at h
    | offline => simp [hh] at h
    | online => simp [hh, Health.inService] at hs
    | suspect c => simp [hh, Health.inService] at hs
  | true =>
    rw [← pollReason_iff hs]
    unfold candidate
    cases hh : b.health with
    | probing t => simp [hh, Health.inService] at hs
    | offline => simp [hh, Health.inService] at hs
    | online => simp only []; split <;> [simp [*]; (split <;> simp [*])]
    | suspect c => simp only []; split <;> simp [*]

theorem candidate_eq_request {s : State} {n : NodeIx} {b : BoundNode} :
    candidate s n b = some .request ↔ presentsRequest s n b ∧ ¬presentsPoll s n b := by
  rw [presentsRequest, ← requestOpen_iff]
  unfold candidate
  cases hh : b.health with
  | probing t => cases t <;> simp
  | offline => simp
  | online =>
    rw [← pollReason_iff (by simp [hh, Health.inService])]
    simp only []
    split <;> [simp [*]; (split <;> simp [*])]
  | suspect c => simp only []; split <;> simp

theorem candidate_eq_none {s : State} {n : NodeIx} {b : BoundNode} : candidate s n b = none ↔ ¬presentsAny s n b := by
  cases hc : candidate s n b with
  | none =>
    simp only [true_iff]
    rintro (h | h | h)
    · simp [candidate_eq_reset.mpr h] at hc
    · simp [candidate_eq_poll.mpr h] at hc
    · by_cases hp : presentsPoll s n b
      · simp [candidate_eq_poll.mpr hp] at hc
      · simp [candidate_eq_request.mpr ⟨h, hp⟩] at hc
  | some c =>
    simp only [reduceCtorEq, false_iff, not_not]
    cases c with
    | reset => exact .inl (candidate_eq_reset.mp hc)
    | poll => exact .inr (.inl (candidate_eq_poll.mp hc))
    | request => exact .inr (.inr (candidate_eq_request.mp hc).1)

/-! ## The search -/

/-- The arbiter finds a node of the line with the candidate it presents. -/
theorem arbiterPick_some {s : State} {l : LineIx} {n : NodeIx} {c : Candidate} (h : arbiterPick s l = some (n, c)) :
    ∃ b, s.bound n = some b ∧ b.line = l ∧ candidate s n b = some c := by
  obtain ⟨d, -, hd⟩ := List.exists_of_findSome?_eq_some h
  unfold candidateAt at hd
  split at hd
  · cases hd
  · rename_i m hm
    obtain ⟨b, hb, hl, -⟩ := State.nodeAt_bound hm
    rw [hb, Option.map_eq_some_iff] at hd
    obtain ⟨c', hc', heq⟩ := hd
    obtain ⟨rfl, rfl⟩ := Prod.mk.inj heq
    exact ⟨b, hb, hl, hc'⟩

theorem arbiterPick_none {s : State} {l : LineIx} (h : ∀ n b, s.bound n = some b → b.line = l → ¬presentsAny s n b) :
    arbiterPick s l = none := by
  cases hp : arbiterPick s l with
  | none => rfl
  | some nc =>
    obtain ⟨b, hb, hl, hc⟩ := arbiterPick_some (n := nc.1) (c := nc.2) hp
    rw [candidate_eq_none.mpr (h _ b hb hl)] at hc
    cases hc

/-- The arbiter finds the node that its search reaches (R81). -/
theorem arbiterPick_reached {s : State} (hs : NodeLaw s) {l : LineIx} {n : NodeIx} {b : BoundNode} {c : Candidate}
    (h : reachedBySearch s l n b) (hc : candidate s n b = some c) : arbiterPick s l = some (n, c) := by
  obtain ⟨hb, hl, -, before, after, horder, hbefore⟩ := h
  have hnode : s.nodeAt l b.drop = some n := hl ▸ State.nodeAt_of_bound hb fun m c hmc hcl hcd => hs.2.1 m n c hmc b hb hcl hcd
  have hnone : before.findSome? (fun d => candidateAt s l d) = none := by
    rw [List.findSome?_eq_none_iff]
    intro d hd
    unfold candidateAt
    cases hm : s.nodeAt l d with
    | none => rfl
    | some m =>
      obtain ⟨c', hc', hcl, rfl⟩ := State.nodeAt_bound hm
      simp only [hc', candidate_eq_none.mpr (hbefore m c' hc' hcl hd), Option.map_none]
  rw [arbiterPick, horder, List.findSome?_append, hnone, Option.none_or, List.findSome?_cons]
  simp [candidateAt, hnode, hb, hc]

/-! ## Sequence numbers -/

/-- Fewer than 16 seqs in use leave a first free one (R59). -/
theorem freeSeq_spec {next : Seq} {taken : List Seq} (h : taken.length < 16) :
    ∃ k : Seq, freeSeq next taken = some (next + k) ∧ next + k ∉ taken ∧ ∀ j, j < k → next + j ∈ taken := by
  have hsome : ∃ k : Seq, next + k ∉ taken := by
    by_contra hall
    push Not at hall
    have hsub : allSeqs ⊆ taken := fun q _ => by simpa using hall (q - next)
    have := (List.subperm_of_subset (List.nodup_finRange 16) hsub).length_le
    simp at this
    omega
  have hfind : ((allSeqs.find? fun k => !taken.contains (next + k))).isSome = true := by
    obtain ⟨k, hk⟩ := hsome
    rw [List.find?_isSome]
    exact ⟨k, List.mem_finRange k, by simpa using hk⟩
  obtain ⟨k, hk⟩ := Option.isSome_iff_exists.mp hfind
  have hmap : freeSeq next taken = some (next + k) := by
    rw [freeSeq, List.find?_map]
    have : (allSeqs.find? ((fun q => !taken.contains q) ∘ fun k => next + k)) = some k := hk
    rw [this]; rfl
  obtain ⟨hfree, before, after, heq, hbefore⟩ := List.find?_eq_some_iff_append.mp hk
  refine ⟨k, hmap, by simpa using hfree, fun j hj => ?_⟩
  have hsorted : allSeqs.Pairwise (· < ·) := List.pairwise_lt_finRange 16
  have hmem : j ∈ before ++ k :: after := heq ▸ List.mem_finRange j
  rw [heq, List.pairwise_append, List.pairwise_cons] at hsorted
  rcases List.mem_append.mp hmem with hb | hb
  · simpa using hbefore j hb
  · rcases List.mem_cons.mp hb with rfl | ha
    · exact absurd hj (lt_irrefl _)
    · exact absurd hj (lt_asymm (hsorted.2.1.1 j ha))

/-- A node that presents a REQUEST: the head of its issue queue, and the seq it is granted (R10, R59). -/
theorem grantRequest_spec {s : State} (hq : QueueLaw s) (hs : SeqLaw s) {n : NodeIx} {b : BoundNode} (hb : s.bound n = some b)
    (hne : b.issueQueue ≠ []) (hi : b.issuingSeq = none) :
    ∃ i rest e k, b.issueQueue = i :: rest ∧ s.entry i = some e ∧ e.node = n ∧ e.phase = .ready ∧
      b.nextSeq + k ∉ s.usedSeqs n b ∧ (∀ j, j < k → b.nextSeq + j ∈ s.usedSeqs n b) ∧
      freeSeq b.nextSeq (s.liveSeqs n ++ b.abandoned) = some (b.nextSeq + k) := by
  obtain ⟨i, rest, hqueue⟩ := List.exists_cons_of_ne_nil hne
  obtain ⟨e, he, hn, hr⟩ := (mem_issueQueue hq hb).mp (hqueue ▸ List.mem_cons_self (a := i) (l := rest))
  have hused : s.usedSeqs n b = s.liveSeqs n ++ b.abandoned := by simp [State.usedSeqs, hi]
  obtain ⟨k, hfree, hout, hin⟩ := freeSeq_spec (next := b.nextSeq) (taken := s.liveSeqs n ++ b.abandoned)
    (by have := (hs.1 n b hb).2; rw [hused] at this; omega)
  exact ⟨i, rest, e, k, hqueue, he, hn, hr, hused ▸ hout, hused ▸ hin, hfree⟩

theorem grantRequest_eq {l : LineIx} {n : NodeIx} {b : BoundNode} {s : State} {i : EntryIx} {rest : List EntryIx} {e : Entry}
    {q : Seq} (hqueue : b.issueQueue = i :: rest) (he : s.entry i = some e)
    (hfree : freeSeq b.nextSeq (s.liveSeqs n ++ b.abandoned) = some q) :
    grantRequest l n b s = startExchange l n b (.request q) b.pendingAck (requestFrame b.drop e q b.pendingAck)
      (({ s with stamp := s.stamp + 1 }.setEntry i (some (e.sentAs q s.stamp))).modBound n fun b =>
        { b with issueQueue := rest, issuingSeq := some q, nextSeq := q + 1 }) := by
  simp [grantRequest, hqueue, he, hfree]

theorem delaySuspectCheck_eq (n : NodeIx) (s : State) :
    delaySuspectCheck n s = s.modBound n fun b =>
      { b with
        health :=
          match b.health with
          | .suspect _ => .suspect (s.now + 1000 * s.params.suspectInterval)
          | other => other } := by
  rw [delaySuspectCheck]
  congr 1
  funext b
  cases hh : b.health <;> simp [millis, usPerMs, Nat.mul_comm]
  all_goals rw [← hh]

/-! ## The obligation -/

theorem exec_lineGrant (t : Time) (l : LineIx) (s : State) :
    exec (.lineGrant t l) s = .next (whenRunning t (arbitrate l) s) := rfl

theorem whenRunning_high {t : Time} {f : State → State} {s : State} (h : s.rstnLow = false) :
    whenRunning t f s = f (s.advance t) := by simp [whenRunning, h]

theorem arbitrate_found {l : LineIx} {s : State} (hi : (s.line l).state = .idle) (hen : s.lineEnabled l = true) {n : NodeIx}
    {b : BoundNode} {c : Candidate} (hp : arbiterPick s l = some (n, c)) (hb : s.bound n = some b) :
    arbitrate l s = grantTo l n b s c := by
  simp [arbitrate, hi, hen, hp, hb]

/-- Settles O40, by what the arbiter's search finds at each drop and what each kind of grant writes. -/
theorem grantFollowsTheSearch : Obligations.GrantFollowsTheSearch := by
  intro t l s hlaw hr
  obtain ⟨hcore, -, hline, -⟩ := lawful_iff.mp hlaw
  have hcore' : Core (s.advance t) := (moves_advance s t).core_of_rest hcore rfl fun _ => rfl
  rw [exec_lineGrant, whenRunning_high hr]
  refine ⟨?_, fun n b hreach => ?_⟩
  · rintro (hstate | hnone)
    · rw [arbitrate, if_neg (fun h => hstate h.1)]
    · rw [arbitrate, arbiterPick_none hnone]
      exact congrArg _ (ite_self _)
  · obtain ⟨hb, hl, hidle, -⟩ := id hreach
    have hen : s.lineEnabled l = true := by
      have := (hline.1 l).2
      rwa [show (s.line l).state = .idle from hidle] at this
    have hfound : ∀ c, candidate (s.advance t) n b = some c → arbitrate l (s.advance t) = grantTo l n b (s.advance t) c :=
      fun c hc => arbitrate_found hidle hen (arbiterPick_reached hcore'.node hreach hc) hb
    refine ⟨fun hp => ?_, fun hp => ?_, fun hp hnp => ?_⟩
    · rw [hfound _ (candidate_eq_reset.mpr hp)]; rfl
    · rw [hfound _ (candidate_eq_poll.mpr hp), grantTo, grantPoll, delaySuspectCheck_eq]; rfl
    · obtain ⟨i, rest, e, k, hqueue, he, -, -, hout, hin, hfree⟩ :=
        grantRequest_spec hcore'.queue hcore'.seq hb hp.2.1 hp.2.2.1
      refine ⟨i, rest, e, k, hqueue, he, hout, hin, ?_⟩
      rw [hfound _ (candidate_eq_request.mpr ⟨hp, hnp⟩), grantTo, grantRequest_eq hqueue he hfree,
        State.modBound_congr (g := fun c =>
          { c with issueQueue := rest, issuingSeq := some (c.nextSeq + k), nextSeq := c.nextSeq + k + 1 }) fun c hc => by
            obtain rfl := Option.some.inj (hb.symm.trans hc); rfl]
      rfl

end Sys2Proof.Machine
end

section
/-! PROOFS. The grants and the laws. -/

namespace Sys2Proof.Machine

/-! ## The line of a grant -/

theorem startExchange_line (l : LineIx) (n : NodeIx) (b : BoundNode) (kind : FrameKind) (ack : Option Ack) (frame : List Byte)
    (v : State) (k : LineIx) :
    (startExchange l n b kind ack frame v).line k =
      if l = k then
        { v.line l with
          state := .exchanging false
            { node := n, drop := b.drop, kind := kind, ack := ack, attempt := 1, abandoned := false, uncounted := false
              frame := frame, window := v.params.responseWindow, phase := .sending }
          lastGranted := b.drop }
      else v.line k := by
  rw [startExchange, State.modLine_line]

/-- The law of the lines when an exchange starts at a node of an IDLE line (R72, R73). -/
theorem startExchange_lineLaw {s v : State} (hl : LineLaw s) {l : LineIx} (hidle : (s.line l).state = .idle)
    (hparams : s.params.lawful) (hp : v.params = s.params) (hlines : ∀ k, v.line k = s.line k) {n : NodeIx} {b b' : BoundNode}
    (hb : s.bound n = some b) (hbl : b.line = l) (hb' : v.bound n = some b') (hline : b'.line = b.line) (hdrop : b'.drop = b.drop)
    (hothers : ∀ m, m ≠ n → v.lineViewAt m = s.lineViewAt m) {kind : FrameKind} {ack : Option Ack}
    (hkind : match kind with
      | .reset => b'.health.same (.probing none) = true
      | .poll => b'.health.inService = true ∧ ∀ a ∈ b'.pendingAck, ack = some a
      | .request seq => b'.health ≠ .offline ∧ b'.issuingSeq = some seq ∧ ∀ a ∈ b'.pendingAck, ack = some a)
    (hissuing : ∀ q, b'.issuingSeq = some q → kind = .request q) (hprobing : b'.health = .probing none → kind = .reset)
    (frame : List Byte) : LineLaw (startExchange l n b kind ack frame v) := by
  obtain ⟨hstate, hiss, hprob⟩ := hl
  have hen : s.lineEnabled l = true := by have := (hstate l).2; rwa [hidle] at this
  have hrest : ∀ m, (startExchange l n b kind ack frame v).bound m = v.bound m := fun m => rfl
  have hdiff : DiffersAt l s (startExchange l n b kind ack frame v) := fun m => by
    by_cases hm : m = n
    · subst hm
      refine .inr ⟨fun c hc => ?_, fun c hc => ?_⟩
      · obtain rfl := Option.some.inj (hb.symm.trans hc); exact hbl
      · obtain rfl := Option.some.inj (hb'.symm.trans hc); exact hline.trans hbl
    · exact .inl (hothers m hm)
  have hnotIdle : ∀ {f : Exchange → Bool} {k : LineIx}, (s.line k).state.runs f = true → k ≠ l := fun {f k} hr hk => by
    rw [hk, hidle] at hr; cases hr
  refine ⟨fun k => ?_, fun m c hc q hq => ?_, fun m c hc hh => ?_⟩
  · rw [startExchange_line]
    split
    · rename_i hk; subst hk
      rw [hlines]
      refine ⟨(hstate l).1, le_rfl, (by simp : 1 ≤ 3), ?_, ?_, trivial, ?_, (by simp), fun _ => ?_⟩
      · rw [hp]; exact hparams.2.2.1
      · rw [hp]; exact hparams.2.2.2.1
      · change false = !v.lineEnabled l
        rw [State.lineEnabled, hp]
        exact (congrArg not hen).symm
      · exact ⟨b', hb', hline.trans hbl, hdrop, hkind⟩
    · rename_i hk
      rw [hlines]
      exact ⟨(hstate k).1, LineState.lawful_congr hp hdiff (Ne.symm hk) (hstate k).2⟩
  · rw [hrest] at hc
    by_cases hm : m = n
    · subst hm
      obtain rfl := Option.some.inj (hb'.symm.trans hc)
      rw [hline, hbl, startExchange_line, if_pos rfl, hissuing q hq]
      simp [LineState.runs]
    · obtain ⟨d, hd, hdl, -, -, hdi, -⟩ := lineView_some (hothers m hm).symm hc
      have hr := hiss m d hd q (hdi.trans hq)
      rw [hdl] at hr
      rw [startExchange_line, if_neg (Ne.symm (hnotIdle hr)), hlines]
      exact hr
  · rw [hrest] at hc
    by_cases hm : m = n
    · subst hm
      obtain rfl := Option.some.inj (hb'.symm.trans hc)
      rw [hline, hbl, startExchange_line, if_pos rfl, hprobing hh]
      simp [LineState.runs]
    · obtain ⟨d, hd, hdl, -, hdh, -⟩ := lineView_some (hothers m hm).symm hc
      have hr := hprob m d hd (hdh.trans hh)
      rw [hdl] at hr
      rw [startExchange_line, if_neg (Ne.symm (hnotIdle hr)), hlines]
      exact hr

/-- A node of an IDLE line has no issuing seq and has its probe time. -/
theorem LineLaw.idle_node {s : State} (hl : LineLaw s) {l : LineIx} (hidle : (s.line l).state = .idle) {n : NodeIx} {b : BoundNode}
    (hb : s.bound n = some b) (hbl : b.line = l) : b.issuingSeq = none ∧ b.health ≠ .probing none := by
  constructor
  · cases hq : b.issuingSeq with
    | none => rfl
    | some q => have := hl.2.1 n b hb q hq; rw [hbl, hidle] at this; cases this
  · intro hh
    have := hl.2.2 n b hb hh; rw [hbl, hidle] at this; cases this

/-! ## The record of a REQUEST granted -/

theorem Entry.sentAs_lawful {e : Entry} (h : e.lawful) (hr : e.phase = .ready) (q : Seq) (stamp : Nat) :
    (e.sentAs q stamp).lawful := by
  obtain ⟨h1, h2, h3, h4, h5⟩ := h
  rw [Entry.phaseLaw, hr] at h5
  refine ⟨h1, h2, h3, h4, h5.1, h5.2.1, ?_⟩
  simp [Entry.sentAs, h5.2.2]

section
variable {s : State} (hs : Core s) {n : NodeIx} {b : BoundNode} {i : EntryIx} {rest : List EntryIx} {e : Entry} {q : Seq}
  (hb : s.bound n = some b) (hqueue : b.issueQueue = i :: rest) (he : s.entry i = some e) (hn : e.node = n)
  (hr : e.phase = .ready) (hi : b.issuingSeq = none) (hfresh : q ∉ s.usedSeqs n b) (hroom : (s.usedSeqs n b).length < 8)

/-- The part with the head of an issue queue ISSUING under a seq. -/
def issuedHead (n : NodeIx) (i : EntryIx) (rest : List EntryIx) (e : Entry) (q : Seq) (s : State) : State :=
  ({ s with stamp := s.stamp + 1 }.setEntry i (some (e.sentAs q s.stamp))).modBound n fun b =>
    { b with issueQueue := rest, issuingSeq := some q, nextSeq := q + 1 }

theorem issuedHead_entry (n : NodeIx) (i : EntryIx) (rest : List EntryIx) (e : Entry) (q : Seq) (s : State) (j : EntryIx) :
    (issuedHead n i rest e q s).entry j = if i = j then some (e.sentAs q s.stamp) else s.entry j := by
  rw [issuedHead, State.modBound_entry, State.setEntry_entry]; rfl

theorem issuedHead_bound (n : NodeIx) (i : EntryIx) (rest : List EntryIx) (e : Entry) (q : Seq) (s : State) (m : NodeIx) :
    (issuedHead n i rest e q s).bound m =
      if n = m then (s.bound n).map fun b => { b with issueQueue := rest, issuingSeq := some q, nextSeq := q + 1 } else s.bound m := by
  rw [issuedHead, State.modBound_bound]; rfl

include hs hb hqueue he hn hr hi hfresh hroom

omit hfresh hroom hn hqueue hs hb hi he hr in
theorem issuedHead_entry_cases {j : EntryIx} {f : Entry} (hf : (issuedHead n i rest e q s).entry j = some f) :
    (j = i ∧ f = e.sentAs q s.stamp) ∨ (j ≠ i ∧ s.entry j = some f) := by
  rw [issuedHead_entry] at hf
  split at hf
  · rename_i hij; exact .inl ⟨hij.symm, (Option.some.inj hf).symm⟩
  · rename_i hij; exact .inr ⟨fun h => hij h.symm, hf⟩

omit hr in
theorem issuedHead_seqLaw : SeqLaw (issuedHead n i rest e q s) := by
  set u := issuedHead n i rest e q s with hu
  obtain ⟨hused, hissuing, hone⟩ := hs.seq
  have hcases := fun {j f} => issuedHead_entry_cases (s := s) (n := n) (i := i) (rest := rest) (e := e) (q := q) (j := j) (f := f)
  have hfollows : ∀ j f, u.entry j = some f → f.phase.liveSeq.isSome = true → s.entry j = some f := fun j f hf hl => by
    rcases hcases hf with ⟨-, rfl⟩ | ⟨-, hf⟩
    · cases hl
    · exact hf
  have hlive : ∀ m, u.liveSeqs m ⊆ s.liveSeqs m := fun m r hr' => by
    obtain ⟨j, f, hf, hfm, hfr⟩ := mem_liveSeqs.mp hr'
    exact mem_liveSeqs.mpr ⟨j, f, hfollows j f hf (by rw [hfr]; rfl), hfm, hfr⟩
  have hnodup : ∀ m, (s.liveSeqs m).Nodup → (u.liveSeqs m).Nodup := fun m hnd => by
    rw [nodup_liveSeqs] at hnd ⊢
    intro j k f g r hf hg hfm hgm hfr hgr
    exact hnd j k f g r (hfollows j f hf (by rw [hfr]; rfl)) (hfollows k g hg (by rw [hgr]; rfl)) hfm hgm hfr hgr
  have hnone : ∀ j f, s.entry j = some f → f.node = n → f.phase.issuingSeq = none := fun j f hf hfn => by
    cases hfi : f.phase.issuingSeq with
    | none => rfl
    | some r =>
      obtain ⟨c, hc, hcr⟩ := hissuing j f hf (by rw [hfi]; rfl)
      rw [hfn] at hc
      obtain rfl := Option.some.inj (hb.symm.trans hc)
      rw [hi, hfi] at hcr; cases hcr
  refine ⟨fun m c' hc' => ?_, fun j f hf hsome => ?_, fun j k f hf g hg hfi hgi hfg => ?_⟩
  · rw [Option.mem_def, hu, issuedHead_bound] at hc'
    split at hc'
    · rename_i hm; subst hm
      rw [hb] at hc'
      obtain rfl := Option.some.inj hc'
      obtain ⟨hlnd, hand, -, hab⟩ := nodup_usedSeqs.mp (hused n b hb).1
      have hout : q ∉ s.liveSeqs n ∧ q ∉ b.abandoned :=
        ⟨fun h => hfresh (mem_usedSeqs.mpr (.inl h)), fun h => hfresh (mem_usedSeqs.mpr (.inr (.inr h)))⟩
      have hnd' : (u.usedSeqs n { b with issueQueue := rest, issuingSeq := some q, nextSeq := q + 1 }).Nodup :=
        nodup_usedSeqs.mpr ⟨hnodup n hlnd, hand, fun r hr' => by
          obtain rfl := Option.some.inj hr'
          exact ⟨fun h => hout.1 (hlive n h), hout.2⟩, fun r hr' hl => hab r hr' (hlive n hl)⟩
      refine ⟨hnd', ?_⟩
      have hsub : u.usedSeqs n { b with issueQueue := rest, issuingSeq := some q, nextSeq := q + 1 } ⊆ q :: s.usedSeqs n b :=
        fun r hr' => by
          rcases mem_usedSeqs.mp hr' with hl | hq | ha
          · exact List.mem_cons_of_mem _ (mem_usedSeqs.mpr (.inl (hlive n hl)))
          · obtain rfl := Option.some.inj hq; exact List.mem_cons_self ..
          · exact List.mem_cons_of_mem _ (mem_usedSeqs.mpr (.inr (.inr ha)))
      exact (List.subperm_of_subset hnd' hsub).length_le.trans hroom
    · obtain ⟨hlnd, hand, hiss, hab⟩ := nodup_usedSeqs.mp (hused m c' hc').1
      have hnd' : (u.usedSeqs m c').Nodup := nodup_usedSeqs.mpr ⟨hnodup m hlnd, hand,
        fun r hr' => ⟨fun hl => (hiss r hr').1 (hlive m hl), (hiss r hr').2⟩, fun r hr' hl => hab r hr' (hlive m hl)⟩
      refine ⟨hnd', usedSeqs_of_subset (hused m c' hc').2 hnd' fun r hr' => ?_⟩
      rcases mem_usedSeqs.mp hr' with hl | hrest
      · exact mem_usedSeqs.mpr (.inl (hlive m hl))
      · exact mem_usedSeqs.mpr (.inr hrest)
  · rw [hu, issuedHead_bound]
    rcases hcases hf with ⟨-, rfl⟩ | ⟨-, hf⟩
    · rw [if_pos (show n = (e.sentAs q s.stamp).node from hn.symm), hb]
      exact ⟨_, rfl, rfl⟩
    · have hne : ¬n = f.node := fun h => by rw [hnone j f hf h.symm] at hsome; cases hsome
      rw [if_neg hne]
      exact hissuing j f hf hsome
  · rcases hcases hf with ⟨rfl, rfl⟩ | ⟨-, hf'⟩ <;> rcases hcases hg with ⟨rfl, rfl⟩ | ⟨-, hg'⟩
    · rfl
    · rw [hnone k g hg' (hfg.symm.trans hn)] at hgi; cases hgi
    · rw [hnone j f hf' (hfg.trans hn)] at hfi; cases hfi
    · exact hone j k f hf' g hg' hfi hgi hfg

omit hn hi hfresh hroom hqueue in
theorem issuedHead_stepsTo (hn : e.node = n) (m : NodeIx) : (s.node m).StepsTo ((issuedHead n i rest e q s).node m) := by
  rw [issuedHead, State.modBound_node]
  split
  · rename_i h; subst h
    refine NodeRec.stepsTo_map fun c hc => ?_
    obtain rfl := Option.some.inj (hb.symm.trans hc)
    have hon : b.health ≠ .offline := hs.node.online he (by rw [hr]; rfl) b (hn ▸ hb)
    exact ⟨rfl, rfl, id, id, fun ⟨h1, h2, h3, h4, h5, h6, h7, _⟩ => ⟨h1, h2, h3, h4, h5, h6, h7, fun hh => absurd hh hon⟩⟩
  · exact .refl _

theorem issuedHead_core : Core (issuedHead n i rest e q s) := by
  have hcases := fun {j f} => issuedHead_entry_cases (s := s) (n := n) (i := i) (rest := rest) (e := e) (q := q) (j := j) (f := f)
  have hsteps := fun m => issuedHead_stepsTo (rest := rest) (q := q) hs hb he hr hn m
  refine ⟨tableLaw_of hs.table fun j f hf => ?_, ?_, ?_, ⟨occupied_nodup_of hs.buffer.1 fun j => ?_, hs.buffer.2⟩,
    nodeLaw_of hsteps hs.node (fun j f hf ho => ?_) (fun j f hf hl => ?_),
    issuedHead_seqLaw hs hb hqueue he hn hi hfresh hroom, hs.param.1, fun m => by rw [(hsteps m).params]; exact hs.param.2 m⟩
  · rcases hcases hf with ⟨rfl, rfl⟩ | ⟨-, hf⟩
    · exact ⟨e, he, rfl, rfl, fun h => Entry.sentAs_lawful h hr q _⟩
    · exact ⟨f, hf, rfl, rfl, id⟩
  · refine queueLaw_of_moves hs.queue (List.nodup_singleton i) (fun j hj => ?_) fun pl q' hq' => ?_
    · have hji : ¬i = j := fun h => hj (h ▸ List.mem_singleton_self i)
      rw [State.placeOf, issuedHead_entry, if_neg hji]; rfl
    · have hgone : ([i].filter fun j => (issuedHead n i rest e q s).placeOf j = some pl) = [] := by
        simp [State.placeOf, issuedHead_entry, Entry.place, Entry.sentAs]
      simp only [hgone, List.append_nil]
      have hnotin : ∀ {q₀}, s.queueAt pl = some q₀ → pl ≠ .issue n → q₀.filter (fun j => j ∉ [i]) = q₀ := fun {q₀} hq₀ hpl => by
        rw [List.filter_eq_self]
        intro j hj
        simp only [List.mem_singleton, decide_eq_true_eq]
        rintro rfl
        obtain ⟨f, hf, hplace⟩ := State.placeOf_eq_some_iff.mp ((hs.queue.mem_iff hq₀ _).mp hj)
        obtain rfl := Option.some.inj (he.symm.trans hf)
        exact hpl (Option.some.inj (hplace.symm.trans (Entry.place_eq_issue.mpr ⟨hn, hr⟩)))
      rcases pl with _ | m | p
      · obtain rfl : s.admission = q' := Option.some.inj hq'
        exact ⟨s.admission, rfl, by rw [hnotin rfl (by simp)]⟩
      · simp only [State.queueAt, issuedHead_bound] at hq'
        by_cases hm : n = m
        · subst hm
          rw [if_pos rfl, hb] at hq'
          obtain rfl := Option.some.inj hq'
          have hnd : (i :: rest).Nodup := hqueue ▸ hs.queue.nodup (pl := .issue n) (by rw [State.queueAt, hb]; rfl)
          refine ⟨b.issueQueue, by rw [State.queueAt, hb]; rfl, ?_⟩
          rw [hqueue, List.filter_cons_of_neg (by simp), List.filter_eq_self.mpr]
          intro j hj
          simp only [List.mem_singleton, decide_eq_true_eq]
          rintro rfl
          exact (List.nodup_cons.mp hnd).1 hj
        · rw [if_neg hm] at hq'
          exact ⟨q', hq', by rw [hnotin hq' (by simpa using Ne.symm hm)]⟩
      · have hport : (issuedHead n i rest e q s).queueAt (.completion p) = s.queueAt (.completion p) := by
          simp only [State.queueAt]; cases p <;> rfl
        exact ⟨q', hport ▸ hq', by rw [hnotin (hport ▸ hq') (by simp)]⟩
  · refine (committedTotal_le fun j => ?_).trans hs.total
    rw [State.committedAt, State.committedAt, issuedHead_entry]
    split
    · rename_i hij; subst hij; rw [he]; rfl
    · rfl
  · rw [State.blocksAt, State.blocksAt, issuedHead_entry]
    split
    · rename_i hij; subst hij; rw [he]; exact .refl _
    · exact .refl _
  · rcases hcases hf with ⟨rfl, rfl⟩ | ⟨-, hf⟩
    · exact hs.node.2.2.1 _ e he (by rw [hr]; rfl)
    · exact hs.node.2.2.1 j f hf ho
  · rcases hcases hf with ⟨rfl, rfl⟩ | ⟨-, hf⟩
    · cases hl
    · exact hs.node.2.2.2 j f hf hl

end

/-! ## The grants -/

theorem committedTotal_of_committedAt {s u : State} (h : ∀ i, u.committedAt i = s.committedAt i) :
    u.committedTotal = s.committedTotal := by
  rw [committedTotal_eq_sum, committedTotal_eq_sum]
  exact Finset.sum_congr rfl fun i _ => h i

/-- What a grant keeps, for the law of the ports and of the head of admission. -/
structure Grants (s u : State) : Prop where
  keeps : Keeps s u
  rstnLow : u.rstnLow = s.rstnLow
  total : u.committedTotal = s.committedTotal
  admission : u.admission = s.admission
  params : u.params = s.params

section
variable {s : State} (hs : Core s) (hl : LineLaw s) {l : LineIx} (hidle : (s.line l).state = .idle) {n : NodeIx} {b : BoundNode}
  (hb : s.bound n = some b) (hbl : b.line = l)
include hs hl hidle hb hbl

theorem grantReset_grants (hp : presentsReset s b) : Grants s (grantReset l n b s) := by
  obtain ⟨due, hh, -⟩ := hp
  have hcore : Core (s.modBound n fun b => { b with health := .probing none }) := by
    refine modBound_core hs (fun c hc => ⟨rfl, rfl, fun h => ?_, fun _ => by simp, fun ⟨h1, h2, h3, h4, h5, _, h7, _⟩ =>
      ⟨h1, h2, h3, h4, h5, (by simp [Health.inService]), h7, (by simp)⟩⟩) fun c _ => ⟨rfl, rfl, .refl _⟩
    obtain rfl := Option.some.inj (hb.symm.trans hc)
    rw [hh] at h; cases h
  obtain ⟨hi, -⟩ := hl.idle_node hidle hb hbl
  unfold grantReset
  refine ⟨⟨core_modLine hcore l _, ?_, fun _ _ he _ => he, fun p => ?_⟩, rfl, rfl, rfl, rfl⟩
  · exact startExchange_lineLaw (v := s.modBound n fun b => { b with health := .probing none }) (kind := .reset) hl hidle
      hs.param.1 rfl (fun _ => rfl) hb hbl (b' := { b with health := .probing none })
      (by rw [State.modBound_bound, if_pos rfl, hb]; rfl) rfl rfl
      (fun m hm => State.lineViewAt_of_outline (State.modBound_outlineAt_ne _ hm)) rfl (fun q hq => by rw [hi] at hq; cases hq)
      (fun _ => rfl) _
  · rw [startExchange, State.modLine_port, State.modBound_port]; exact .refl _

theorem grantPoll_grants (hp : presentsPoll s n b) : Grants s (grantPoll l n b s) := by
  have hservice : b.health.inService = true := by
    rcases hp with ⟨h, -⟩ | ⟨c, h, -⟩
    · exact h
    · rw [h]; rfl
  obtain ⟨hi, hprob⟩ := hl.idle_node hidle hb hbl
  rw [grantPoll, delaySuspectCheck_eq]
  set F : BoundNode → BoundNode := fun b =>
    { b with
      health :=
        match b.health with
        | .suspect _ => .suspect (s.now + 1000 * s.params.suspectInterval)
        | other => other } with hF
  have hserv : ∀ c : BoundNode, (F c).health.inService = c.health.inService := fun c => by
    cases hh : c.health <;> simp [hF, hh, Health.inService]
  have hoff : ∀ c : BoundNode, (F c).health = .offline ↔ c.health = .offline := fun c => by
    cases hh : c.health <;> simp [hF, hh]
  have hprobF : ∀ c : BoundNode, (F c).health = .probing none ↔ c.health = .probing none := fun c => by
    cases hh : c.health <;> simp [hF, hh]
  have hcore : Core (s.modBound n F) :=
    modBound_core hs (fun c _ => ⟨rfl, rfl, fun h => (hserv c).trans h, fun h hc => h ((hoff c).mp hc),
      fun ⟨h1, h2, h3, h4, h5, h6, h7, h8⟩ => ⟨h1, h2, h3, h4, h5, fun h => h6 (hserv c ▸ h), h7, fun h => h8 ((hoff c).mp h)⟩⟩)
      fun c _ => ⟨rfl, rfl, .refl _⟩
  refine ⟨⟨core_modLine hcore l _, ?_, fun _ _ he _ => he, fun p => ?_⟩, rfl, rfl, rfl, rfl⟩
  · exact startExchange_lineLaw (v := s.modBound n F) (kind := .poll) (ack := b.pendingAck) hl hidle hs.param.1 rfl
      (fun _ => rfl) hb hbl (b' := F b)
      (by rw [State.modBound_bound, if_pos rfl, hb]; rfl) rfl rfl
      (fun m hm => State.lineViewAt_of_outline (State.modBound_outlineAt_ne _ hm))
      ⟨(hserv b).trans hservice, fun a ha => ha⟩ (fun q hq => by rw [show (F b).issuingSeq = b.issuingSeq from rfl, hi] at hq; cases hq)
      (fun h => absurd ((hprobF b).mp h) hprob) _
  · rw [startExchange, State.modLine_port, State.modBound_port]; exact .refl _

theorem grantRequest_grants (hp : presentsRequest s n b) : Grants s (grantRequest l n b s) := by
  obtain ⟨hon, hne, hi, -, a, ha, hw1, hw2⟩ := hp
  obtain ⟨i, rest, e, k, hqueue, he, hn, hr, hout, -, hfree⟩ := grantRequest_spec hs.queue hs.seq hb hne hi
  have hroom : (s.usedSeqs n b).length < 8 := hw1.trans_le (hs.param.2 n).2.1
  have hcore := issuedHead_core hs hb hqueue he hn hr hi hout hroom
  have hsteps := fun m => issuedHead_stepsTo (rest := rest) (q := b.nextSeq + k) hs hb he hr hn m
  have hcases := fun {j f} => issuedHead_entry_cases (s := s) (n := n) (i := i) (rest := rest) (e := e) (q := b.nextSeq + k) (j := j) (f := f)
  rw [grantRequest_eq hqueue he hfree]
  refine ⟨⟨core_modLine hcore l _, ?_, fun j f hf hwait => ?_, fun p => ?_⟩, rfl, ?_, rfl, rfl⟩
  · refine startExchange_lineLaw (v := issuedHead n i rest e (b.nextSeq + k) s) (kind := .request (b.nextSeq + k))
      (ack := b.pendingAck) hl hidle hs.param.1 rfl (fun _ => rfl) hb hbl
      (b' := { b with issueQueue := rest, issuingSeq := some (b.nextSeq + k), nextSeq := b.nextSeq + k + 1 })
      ((issuedHead_bound n i rest e (b.nextSeq + k) s n).trans (by rw [if_pos rfl, hb]; rfl)) rfl rfl
      (fun m hm => State.lineViewAt_of_outline (State.modBound_outlineAt_ne _ hm)) ⟨by simp [hon], rfl, fun a ha => ha⟩
      (fun q hq => by obtain rfl := Option.some.inj hq; rfl) (fun h => by rw [show _ = b.health from rfl, hon] at h; cases h) _
  · rcases hcases hf with ⟨-, rfl⟩ | ⟨-, hf⟩
    · cases hwait
    · exact hf
  · rw [startExchange, State.modLine_port, State.modBound_port, State.setEntry_port]
    cases p <;> exact .refl _
  · refine committedTotal_of_committedAt fun j => ?_
    change (issuedHead n i rest e (b.nextSeq + k) s).committedAt j = s.committedAt j
    rw [State.committedAt, State.committedAt, issuedHead_entry]
    split
    · rename_i hij; subst hij; rw [he]; rfl
    · rfl

end

theorem arbitrate_lawful {s : State} (hs : Lawful s) (l : LineIx) : Lawful (arbitrate l s) := by
  obtain ⟨hcore, -, hline, -⟩ := lawful_iff.mp hs
  unfold arbitrate
  split
  · rename_i h
    split
    · exact hs
    · rename_i n c hp
      obtain ⟨b, hb, hbl, hc⟩ := arbiterPick_some hp
      simp only [hb]
      have hgrants : Grants s (grantTo l n b s c) := by
        cases c with
        | reset => exact grantReset_grants hcore hline h.1 hb hbl (candidate_eq_reset.mp hc)
        | poll => exact grantPoll_grants hcore hline h.1 hb hbl (candidate_eq_poll.mp hc)
        | request => exact grantRequest_grants hcore hline h.1 hb hbl (candidate_eq_request.mp hc).1
      exact hgrants.keeps.lawful hs hgrants.rstnLow hgrants.total hgrants.admission hgrants.params
  · exact hs

end Sys2Proof.Machine
end

section
/-! PROOFS. The events of the lines and the timers keep every law. -/

namespace Sys2Proof.Machine

theorem Lawful.core {s : State} (h : Lawful s) : Core s := (lawful_iff.mp h).1
theorem Lawful.headWaits {s : State} (h : Lawful s) : HeadWaits s := (lawful_iff.mp h).2.1
theorem Lawful.lineLaw {s : State} (h : Lawful s) : LineLaw s := (lawful_iff.mp h).2.2.1
theorem Lawful.portLaw {s : State} (h : Lawful s) : PortLaw s := (lawful_iff.mp h).2.2.2

/-- An operation on the times or the back-offs of a node, or on a line, needs no test. -/
theorem Handles.keeps {n : NodeIx} {s u : State} (h : Handles n s u) (hl : LineLaw s) (hv : u.lineViewAt n = s.lineViewAt n) :
    Keeps s u where
  core := h.core
  line := lineLaw_congr' h.lines h.params (fun m => by
    by_cases hm : m = n
    · subst hm; exact hv
    · exact h.others m hm) hl
  waiters := h.waiters
  port := h.port

/-! ## The passing of time -/

theorem advance_lawful {s : State} (hs : Lawful s) (t : Time) : Lawful (s.advance t) := by
  have hm := moves_advance s t
  exact Keeps.lawful ⟨hm.core_of_rest hs.core rfl fun _ => rfl,
    lineLaw_congr' (fun _ => rfl) rfl (fun _ => rfl) hs.lineLaw, fun _ _ he _ => he, fun _ => .refl _⟩ hs rfl rfl rfl rfl

theorem whenRunning_lawful {s : State} (hs : Lawful s) (t : Time) {f : State → State} (hf : ∀ v, Lawful v → Lawful (f v)) :
    Lawful (whenRunning t f s) := by
  unfold whenRunning
  split
  · exact advance_lawful hs t
  · exact hf _ (advance_lawful hs t)

/-! ## The events of a line -/

theorem setPhase_lawful {s : State} (hs : Lawful s) {l : LineIx} {pend : Bool} {x : Exchange}
    (hx : (s.line l).state = .exchanging pend x) {phase : AttemptPhase} (hp : phase.lawful) : Lawful (setPhase l phase s) :=
  (setPhase_keeps hs.core hs.lineLaw hx hp).lawful hs rfl rfl rfl rfl

theorem openWindow_lawful {s : State} (hs : Lawful s) (l : LineIx) : Lawful (openWindow l s) := by
  unfold openWindow
  split
  · rename_i pend x hx
    split
    · exact setPhase_lawful hs hx trivial
    · exact hs
    · exact hs
  · exact hs
  · exact hs

theorem attemptEnds_lawful {s : State} (hs : Lawful s) {l : LineIx} {pend : Bool} {x : Exchange}
    (hx : (s.line l).state = .exchanging pend x) (f : AttemptFault) : Lawful (attemptEnds f l x s) :=
  (attemptFails_keeps hs.core hs.lineLaw hx f).lawful_retest hs (State.kept_eq (attemptFails_kept f l x s)).2.1

theorem takeAnswer_lawful {s : State} (hs : Lawful s) {l : LineIx} {pend : Bool} {x : Exchange}
    (hx : (s.line l).state = .exchanging pend x) {answer : List LineByte} (ha : answer ≠ []) : Lawful (takeAnswer l x answer s) := by
  by_cases h : answer.length < answerEnd answer
  · rw [takeAnswer_unfinished h]
    exact setPhase_lawful hs hx ⟨ha, h⟩
  · rw [takeAnswer_ended (Nat.le_of_not_lt h)]
    exact (endAnswer_keeps hs.core hs.lineLaw hx answer).lawful_retest hs
      (State.kept_eq (endAnswer_kept l x s (judgeReceived x answer))).2.1

/-- A line that listens, or one that does not. -/
theorem listening_cases (s : State) (l : LineIx) :
    (∀ x soFar since, ¬hears s l x soFar since) ∨ ∃ x soFar since, hears s l x soFar since := by
  by_cases h : ∃ x soFar since, hears s l x soFar since
  · exact .inr h
  · exact .inl fun x soFar since hx => h ⟨x, soFar, since, hx⟩

theorem receiveByte_lawful {s : State} (hs : Lawful s) (l : LineIx) (byte : LineByte) : Lawful (receiveByte l byte s) := by
  rcases listening_cases s l with hd | ⟨x, soFar, since, hx⟩
  · rw [receiveByte_deaf hd]; exact hs
  · rw [receiveByte_eq hx]
    obtain ⟨⟨pend, hstate⟩, -⟩ := hx
    split
    · exact takeAnswer_lawful hs hstate (by simp)
    · exact hs

theorem receiveBytes_lawful {s : State} (hs : Lawful s) (t : Time) (l : LineIx) (bytes : List HeardByte) :
    Lawful (receiveBytes t l bytes s) := by
  induction bytes generalizing s with
  | nil => exact advance_lawful hs t
  | cons h rest ih => rw [receiveBytes_cons]; exact ih (receiveByte_lawful (advance_lawful hs _) l h.byte)

theorem receiveAnswer_lawful {s : State} (hs : Lawful s) (l : LineIx) (drop : Byte) (a : NodeAnswer) :
    Lawful (receiveAnswer l drop a s) := by
  rcases listening_cases s l with hd | ⟨x, soFar, since, hx⟩
  · rw [receiveAnswer_deaf hd]; exact hs
  · rw [receiveAnswer_eq hx]
    obtain ⟨⟨pend, hstate⟩, -⟩ := hx
    dsimp only
    split
    · rename_i h
      refine takeAnswer_lawful hs hstate fun hnil => ?_
      rw [hnil] at h
      simp at h
    · exact hs

theorem windowExpires_lawful {s : State} (hs : Lawful s) (l : LineIx) : Lawful (windowExpires l s) := by
  unfold windowExpires
  split
  · rename_i x opened h
    obtain ⟨⟨pend, hstate⟩, -⟩ := listening_eq_some.mp h
    split
    · exact attemptEnds_lawful hs hstate .noAnswer
    · exact hs
  all_goals exact hs

theorem answerBreaks_lawful {s : State} (hs : Lawful s) (l : LineIx) : Lawful (answerBreaks l s) := by
  unfold answerBreaks
  split
  · exact hs
  · rename_i x soFar since h
    obtain ⟨⟨pend, hstate⟩, -⟩ := listening_eq_some.mp h
    split
    · exact attemptEnds_lawful hs hstate .frameCheck
    · exact hs

/-! ## The timers -/

/-- The entry of a node into OFFLINE after an operation at it. -/
theorem Keeps.goOffline {s u : State} (h : Keeps s u) (n : NodeIx) : Keeps s (goOffline n u) where
  core := goOffline_core h.core n
  line := goOffline_lineLaw h.core h.line n
  waiters := h.waiters.trans (goOffline_descends h.core.queue n).waitersFrom
  port := fun p => (h.port p).trans (goOffline_portStepsTo h.core.queue n p)

theorem expireEntry_lineViewAt (i : EntryIx) (e : Entry) (q : Seq) (s : State) (m : NodeIx) :
    (expireEntry i e q s).lineViewAt m = s.lineViewAt m := by
  have h : (expireEntry i e q s).outlineAt m = (abandonSeq e.node q s).outlineAt m := by
    unfold expireEntry; dsimp only; split <;> simp
  rw [State.lineViewAt_of_outline h, lineViewAt_abandonSeq]

theorem expireDeadline_lawful {s : State} (hs : Lawful s) {i : EntryIx} {e : Entry} {q : Seq} (he : s.entry i = some e)
    (hq : e.phase.liveSeq = some q) : Lawful (expireDeadline i e q s) := by
  have hkept : (expireDeadline i e q s).rstnLow = s.rstnLow := (State.kept_eq (expireDeadline_kept i e q s)).2.1
  have h := (expireEntry_handles hs.core he hq).keeps hs.lineLaw (expireEntry_lineViewAt ..)
  rw [expireDeadline_eq] at hkept ⊢
  rw [(State.kept_eq (retest_kept s _)).2.1] at hkept
  refine Keeps.lawful_retest ?_ hs hkept
  split
  · exact h.goOffline e.node
  · exact h

theorem deadlineReached_lawful {s : State} (hs : Lawful s) (i : EntryIx) : Lawful (deadlineReached i s) := by
  unfold deadlineReached
  split
  · exact hs
  · rename_i e he
    split
    · split
      · exact expireDeadline_lawful hs he (by simp [*])
      · exact hs
    · split
      · exact expireDeadline_lawful hs he (by simp [*])
      · exact hs
    all_goals exact hs

/-- The discard of an entry that no collect has marked (R137). -/
theorem discard_keeps {s : State} (hs : Core s) (hl : LineLaw s) {p : Port} {i : EntryIx}
    (h : ∀ e, s.entry i = some e → e.phase.isDone = true → ∀ m ∈ (s.port e.port).collect, m.entry ≠ i) :
    Keeps s (discard p i s) := by
  have hfree := moves_freeEntry h
  have hcount : Moves (freeEntry i s) ((freeEntry i s).modPort p fun r => { r with discards := bump r.discards }) :=
    moves_modPort ⟨rfl, rfl, fun ⟨h1, h2, h3, h4, _, h6, h7, h8, h9, h10⟩ => ⟨h1, h2, h3, h4, bump_le _, h6, h7, h8, h9, h10⟩, id, id⟩
  have hm : Moves s (discard p i s) := (hfree.trans hcount).trans (moves_raiseOn p .discarded _)
  have hqueues : (discard p i s).queues = (freeEntry i s).queues := by
    rw [discard, raiseOn_queues, State.modPort_queues rfl]
  have hout : ∀ n, (discard p i s).outlineAt n = s.outlineAt n := fun n => by simp [discard]
  exact ⟨hm.core hs (queueLaw_of_queues hqueues (freeEntry_queueLaw hs.queue i)) (hm.follows.seqLaw_of_outline hm.node hs.seq hout),
    lineLaw_congr' (fun k => by simp [discard]) hm.params (fun n => State.lineViewAt_of_outline (hout n)) hl,
    hm.toDescends.waitersFrom, hm.port⟩

/-- A collect marker that stays on its entry (R138). -/
theorem deferCollect_keeps {s : State} (hs : Core s) (hl : LineLaw s) {p : Port} {m : CollectMarker}
    (hm : (s.port p).collect = some m) : Keeps s (s.modPort p fun r => { r with collect := some ⟨m.entry, true⟩ }) := by
  have hmoves : Moves s (s.modPort p fun r => { r with collect := some ⟨m.entry, true⟩ }) :=
    moves_modPort ⟨rfl, rfl, fun ⟨h1, h2, h3, h4, h5, h6, h7, h8, h9, h10⟩ => ⟨h1, h2, h3, h4, h5, h6, h7, h8, h9, fun m' hm' => by
      obtain rfl := Option.some.inj hm'
      exact ⟨rfl, (h10 m hm).2⟩⟩, id, fun h => by rw [hm] at h; cases h⟩
  exact ⟨hmoves.core_of_rest hs (State.modPort_queues rfl) fun n => by simp,
    lineLaw_congr' (fun k => by simp) hmoves.params (fun n => State.lineViewAt_of_outline (by simp)) hl,
    hmoves.toDescends.waitersFrom, hmoves.port⟩

theorem expireHold_keeps {s : State} (hs : Core s) (hl : LineLaw s) {i : EntryIx} {e : Entry} (he : s.entry i = some e) :
    Keeps s (expireHold e.port i s) := by
  unfold expireHold
  split
  · rename_i m hm
    split
    · rename_i hmi; subst hmi; exact deferCollect_keeps hs hl hm
    · rename_i hmi
      refine discard_keeps hs hl fun f hf _ m' hm' => ?_
      obtain rfl := Option.some.inj (he.symm.trans hf)
      obtain rfl := Option.some.inj (hm.symm.trans hm')
      exact hmi
  · rename_i hm
    refine discard_keeps hs hl fun f hf _ m' hm' => ?_
    obtain rfl := Option.some.inj (he.symm.trans hf)
    rw [hm] at hm'; cases hm'

theorem holdReached_lawful {s : State} (hs : Lawful s) (i : EntryIx) : Lawful (holdReached i s) := by
  unfold holdReached
  split
  · exact hs
  · rename_i e he
    split
    · split
      · exact (expireHold_keeps hs.core hs.lineLaw he).lawful_retest hs (State.kept_eq (expireHold_kept e.port i s)).2.1
      · exact hs
    all_goals exact hs

theorem earliestPollReached_lawful {s : State} (hs : Lawful s) (n : NodeIx) : Lawful (earliestPollReached n s) :=
  ((earliestPoll_handles hs.core fun b => running s.now b.earliestPoll).keeps hs.lineLaw (State.lineViewAt_of_outline
    (State.modBound_outlineAt (f := fun b => { b with earliestPoll := running s.now b.earliestPoll })
      (fun _ _ => rfl) n))).lawful hs rfl rfl rfl rfl

theorem refuseEndReached_lawful {s : State} (hs : Lawful s) (n : NodeIx) : Lawful (refuseEndReached n s) :=
  ((modBound_handles hs.core (n := n) (f := fun b => { b with refuseEnd := running s.now b.refuseEnd })
    (fun _ _ => ⟨rfl, rfl, id, id, id⟩) fun _ _ => ⟨rfl, rfl, .refl _, id⟩).keeps hs.lineLaw
      (State.lineViewAt_of_outline (State.modBound_outlineAt
        (f := fun b => { b with refuseEnd := running s.now b.refuseEnd }) (fun _ _ => rfl) n))).lawful hs rfl rfl rfl rfl

end Sys2Proof.Machine
end

section
/-! PROOFS. What the pins keep: chip select falling and rising, and the end of a window. -/

namespace Sys2Proof.Machine

/-! ## A port alone -/

/-- A change of a port that leaves its completion queue keeps the laws that no receiver enters. -/
theorem modPort_core {s : State} (hs : Core s) {p : Port} {f : PortRec → PortRec}
    (hc : (f (s.port p)).completion = (s.port p).completion) : Core (s.modPort p f) := by
  have hd : Descends s (s.modPort p f) :=
    ⟨fun i e he => ⟨e, by simpa using he, .refl e⟩, (State.fixed_eq (State.modPort_fixed s p f)).1,
      (State.fixed_eq (State.modPort_fixed s p f)).2.2⟩
  have hn : ∀ n, (s.node n).StepsTo ((s.modPort p f).node n) := fun n => by rw [State.modPort_node]; exact .refl _
  exact hd.core hn hs (queueLaw_of_queues (State.modPort_queues hc) hs.queue)
    (hd.follows.seqLaw_of_outline hn hs.seq fun n => by simp)

theorem modPort_lineLaw {s : State} (hs : LineLaw s) (p : Port) (f : PortRec → PortRec) : LineLaw (s.modPort p f) :=
  lineLaw_congr' (fun _ => by simp) (State.fixed_eq (State.modPort_fixed s p f)).1
    (fun _ => State.lineViewAt_of_outline (by simp)) hs

theorem modPort_headWaits {s : State} (hs : HeadWaits s) (p : Port) (f : PortRec → PortRec) : HeadWaits (s.modPort p f) := by
  cases p <;> exact hs

/-- The laws that no receiver enters, and no port but for its completion queue. -/
structure Sound (s : State) : Prop where
  core : Core s
  head : HeadWaits s
  line : LineLaw s

theorem Lawful.sound {s : State} (h : Lawful s) : Sound s := ⟨h.core, h.headWaits, h.lineLaw⟩

theorem modPort_sound {s : State} (hs : Sound s) {p : Port} {f : PortRec → PortRec}
    (hc : (f (s.port p)).completion = (s.port p).completion) : Sound (s.modPort p f) :=
  ⟨modPort_core hs.core hc, modPort_headWaits hs.head p f, modPort_lineLaw hs.line p f⟩

/-- An event followed by admission's test. -/
theorem Keeps.sound_retest {s u : State} (h : Keeps s u) (hs : Sound s) : Sound (retest s u) :=
  ⟨retest_core h.core, retest_headWaits hs.head h.core h.waiters, retest_lineLaw h.line⟩

/-- An event that leaves the commitment, the admission queue and the parameters needs no test. -/
theorem Keeps.sound {s u : State} (h : Keeps s u) (hs : Sound s) (ht : u.committedTotal = s.committedTotal)
    (ha : u.admission = s.admission) (hp : u.params = s.params) : Sound u :=
  ⟨h.core, headWaits_of hs.head h.core.queue h.waiters (by rw [ha]) ht.ge (by rw [hp]), h.line⟩

/-- A move that a port alone makes. -/
theorem modPort_keeps {s : State} (hs : Core s) (hl : LineLaw s) {p : Port} {f : PortRec → PortRec}
    (hc : (f (s.port p)).completion = (s.port p).completion) (hf : (s.port p).StepsTo (f (s.port p))) : Keeps s (s.modPort p f) :=
  ⟨modPort_core hs hc, modPort_lineLaw hl p f, (moves_modPort hf).toDescends.waitersFrom, (moves_modPort hf).port⟩

theorem Lawful.body {s : State} (hs : Lawful s) (p : Port) : (s.port p).bodyLawful := by
  obtain ⟨ha, hb, -⟩ := hs.portLaw
  cases p
  · exact (PortRec.lawful_iff.mp ha).2.1
  · exact (PortRec.lawful_iff.mp hb).2.1

/-! ## The settling of a collect and of a READ_EVENTS -/

/-- The completion queue of a port holds DONE entries of the port. -/
theorem QueueLaw.completion_done {s : State} (hs : QueueLaw s) {p : Port} {i : EntryIx} (hi : i ∈ (s.port p).completion) :
    ∃ e, s.entry i = some e ∧ e.port = p ∧ e.phase.isDone = true := by
  obtain ⟨e, he, hpl⟩ := State.placeOf_eq_some_iff.mp ((hs.mem_iff (pl := .completion p) rfl i).mp hi)
  exact ⟨e, he, Entry.place_eq_completion.mp hpl⟩

/-- The entry of a collect marker is DONE, of its port. -/
theorem marked_done {s : State} (hs : QueueLaw s) {p : Port} (hp : (s.port p).bodyLawful) {m : CollectMarker}
    (hm : (s.port p).collect = some m) : ∃ e, s.entry m.entry = some e ∧ e.port = p ∧ e.phase.isDone = true := by
  obtain ⟨-, -, -, -, -, -, -, -, -, hc⟩ := hp
  exact hs.completion_done (List.mem_of_mem_head? (hc m hm).2)

/-- An entry that no collect has marked, made FREE. -/
theorem freeEntry_keeps {s : State} (hs : Core s) (hl : LineLaw s) {i : EntryIx}
    (h : ∀ e, s.entry i = some e → e.phase.isDone = true → ∀ m ∈ (s.port e.port).collect, m.entry ≠ i) :
    Keeps s (freeEntry i s) := by
  have hm := moves_freeEntry h
  have hout : ∀ n, (freeEntry i s).outlineAt n = s.outlineAt n := fun n => by simp
  exact ⟨hm.core hs (freeEntry_queueLaw hs.queue i) (hm.follows.seqLaw_of_outline hm.node hs.seq hout),
    lineLaw_congr' (fun k => by simp) hm.params (fun n => State.lineViewAt_of_outline (hout n)) hl, hm.toDescends.waitersFrom, hm.port⟩

theorem Entry.descendsTo_repeatedOnce {e : Entry} (hd : e.phase.isDone = true) : e.DescendsTo e.repeatedOnce where
  port := rfl
  tag := rfl
  node := rfl
  lawful := fun ⟨h1, h2, h3, h4, h5⟩ => ⟨h1, h2, h3, h4, by
    cases hp : e.phase <;> simp_all [Entry.phaseLaw, Entry.repeatedOnce]⟩
  blocks := .inl rfl
  committed := fun _ => le_rfl
  waiting := fun h => by
    have : e.phase = .waiting := h
    simp [this] at hd
  isOpen := id
  live := fun _ => id
  issuing := fun _ => id

/-- A DONE entry marked REPEATED (R134). -/
theorem repeatedOnce_keeps {s : State} (hs : Core s) (hl : LineLaw s) {i : EntryIx} {e : Entry} (he : s.entry i = some e)
    (hd : e.phase.isDone = true) : Keeps s (s.modEntry i Entry.repeatedOnce) := by
  have heq : s.modEntry i Entry.repeatedOnce = s.setEntry i (some e.repeatedOnce) := by rw [State.modEntry, he]; rfl
  have hm : Moves s (s.setEntry i (some e.repeatedOnce)) := moves_setEntry he (Entry.descendsTo_repeatedOnce hd)
  rw [heq]
  exact ⟨hm.core_of_rest hs (State.setEntry_queues he rfl) fun _ => rfl, lineLaw_congr' (fun _ => rfl) rfl (fun _ => rfl) hl,
    hm.toDescends.waitersFrom, hm.port⟩

/-- What the settling of a collect does once the marker is gone. -/
def settleMarked (p : Port) (complete : Bool) (m : CollectMarker) (s : State) : State :=
  if complete then freeEntry m.entry s
  else if m.deferred then discard p m.entry (s.modEntry m.entry Entry.repeatedOnce)
  else s.modEntry m.entry Entry.repeatedOnce

theorem settleCollect_of_marked {p : Port} {s : State} {m : CollectMarker} (h : (s.port p).collect = some m) (complete : Bool) :
    settleCollect p complete s = settleMarked p complete m (s.modPort p fun r => { r with collect := none }) := by
  unfold settleCollect settleMarked
  rw [h]

theorem settleCollect_of_unmarked {p : Port} {s : State} (h : (s.port p).collect = none) (complete : Bool) :
    settleCollect p complete s = s := by
  unfold settleCollect
  rw [h]

theorem settleMarked_keeps {s : State} (hs : Core s) (hl : LineLaw s) {p : Port} {m : CollectMarker} {e : Entry}
    (he : s.entry m.entry = some e) (hp : e.port = p) (hd : e.phase.isDone = true) (hc : (s.port p).collect = none)
    (complete : Bool) : Keeps s (settleMarked p complete m s) := by
  have hfree : ∀ f, s.entry m.entry = some f → f.phase.isDone = true → ∀ m' ∈ (s.port f.port).collect, m'.entry ≠ m.entry :=
    fun f hf _ m' hm' => by
      obtain rfl := Option.some.inj (he.symm.trans hf)
      rw [hp, hc] at hm'; cases hm'
  have hrep := repeatedOnce_keeps hs hl he hd
  unfold settleMarked
  split
  · exact freeEntry_keeps hs hl hfree
  · split
    · refine hrep.trans (discard_keeps hrep.core hrep.line fun f hf _ m' hm' => ?_)
      rw [State.modEntry, he] at hf
      obtain rfl : e.repeatedOnce = f := by simpa [State.setEntry_entry] using hf
      have : (s.port p).collect = some m' := by
        rw [← hp]
        simpa [State.modEntry, he, Entry.repeatedOnce] using hm'
      rw [hc] at this; cases this
    · exact hrep

theorem PortRec.stepsTo_unmarked (r : PortRec) : r.StepsTo { r with collect := none } where
  receiver := rfl
  csLow := rfl
  body := fun ⟨h0, h1, h2, h3, h4, h5, h6, h7, h8, _⟩ => ⟨h0, h1, h2, h3, h4, h5, h6, h7, h8, by simp⟩
  readMarker := id
  collect := fun _ => rfl

theorem settleCollect_keeps {s : State} (hs : Core s) (hl : LineLaw s) {p : Port} (hp : (s.port p).bodyLawful) (complete : Bool) :
    Keeps s (settleCollect p complete s) := by
  cases hc : (s.port p).collect with
  | none => rw [settleCollect_of_unmarked hc]; exact .refl hs hl
  | some m =>
    rw [settleCollect_of_marked hc]
    obtain ⟨e, he, hep, hd⟩ := marked_done hs.queue hp hc
    have hk := modPort_keeps hs hl (f := fun r => { r with collect := none }) rfl (PortRec.stepsTo_unmarked (s.port p))
    exact hk.trans (settleMarked_keeps hk.core hk.line (by simpa using he) hep hd (by simp [State.modPort_port]) complete)

/-- The READ_EVENTS of a port settled. -/
def PortRec.eventsSettled (complete : Bool) (r : PortRec) : PortRec :=
  match r.readMarker with
  | none => r
  | some marked =>
    { r with
      readMarker := none
      events := if complete then r.events.filter fun ev => !marked.contains ev else r.events }

theorem settleEvents_eq (p : Port) (complete : Bool) (s : State) :
    settleEvents p complete s = s.modPort p (PortRec.eventsSettled complete) := rfl

theorem PortRec.stepsTo_eventsSettled (complete : Bool) (r : PortRec) : r.StepsTo (r.eventsSettled complete) := by
  unfold PortRec.eventsSettled
  split
  · exact .refl r
  · refine ⟨rfl, rfl, fun ⟨h0, h1, h2, h3, h4, h5, h6, h7, _, hc⟩ => ⟨h0, h1, h2, h3, h4, h5, ?_, h7, by simp, hc⟩, fun _ => rfl, id⟩
    dsimp only
    split
    · exact h6.filter _
    · exact h6

theorem PortRec.eventsSettled_completion (complete : Bool) (r : PortRec) : (r.eventsSettled complete).completion = r.completion := by
  unfold PortRec.eventsSettled
  split <;> rfl

theorem endWindow_sound {s : State} (hs : Sound s) {p : Port} (hp : (s.port p).bodyLawful) (complete : Bool) :
    Sound (endWindow p complete s) := by
  have hk := settleCollect_keeps hs.core hs.line hp complete
  exact (hk.trans (modPort_keeps hk.core hk.line (PortRec.eventsSettled_completion complete _)
    (PortRec.stepsTo_eventsSettled complete _))).sound_retest hs

/-! ## Chip select -/

theorem selectFalls_sound {s : State} (hs : Sound s) (p : Port) : Sound (selectFalls p s) :=
  modPort_sound hs (by split <;> rfl)

theorem selectRises_sound {s : State} (hs : Sound s) {p : Port} (hp : (s.port p).bodyLawful) : Sound (selectRises p s) := by
  unfold selectRises
  split
  · exact hs
  · dsimp only
    split
    · exact modPort_sound hs rfl
    · rw [State.modPort_modPort]
      have hclosed : Sound (s.modPort p fun r => { r with csLow := false, receiver := .idle }) := modPort_sound hs rfl
      have hbody : ((s.modPort p fun r => { r with csLow := false, receiver := .idle }).port p).bodyLawful := by
        rw [State.modPort_port, if_pos rfl]; exact hp
      cases (s.port p).receiver with
      | idle => exact hclosed
      | ignoring => exact hclosed
      | turnaround => exact endWindow_sound hclosed hbody false
      | response => exact endWindow_sound hclosed hbody false
      | trailing => exact endWindow_sound hclosed hbody true
      | command bytes =>
        cases bytes with
        | nil => exact hclosed
        | cons => exact modPort_sound (modPort_sound hclosed rfl) rfl

end Sys2Proof.Machine
end

section
/-! PROOFS. The resets and the laws: a part with an empty table, RSTN, and DEVICE_RESET. -/

namespace Sys2Proof.Machine

/-! ## A part with an empty table -/

theorem used_of_empty {s : State} (he : ∀ i, s.entry i = none) : s.used = [] := by
  simp [State.used, he]

/-- A bound node with nothing out at it. -/
def BoundNode.isFresh (b : BoundNode) : Prop := b.issueQueue = [] ∧ b.issuingSeq = none ∧ b.abandoned = []

/-- The laws of a part whose every entry is FREE. -/
theorem core_of_empty {s : State} (he : ∀ i, s.entry i = none) (ha : s.admission = []) (hc : ∀ p, (s.port p).completion = [])
    (hn : ∀ n, (s.node n).counters.lawful ∧ (s.node n).params.lawful ∧ ∀ b, s.bound n = some b → b.lawful ∧ b.isFresh)
    (hpos : ∀ n m b c, s.bound n = some b → s.bound m = some c → b.line = c.line → b.drop = c.drop → n = m)
    (hb : bufferWf s.buffer) (hp : s.params.lawful) : Core s :=
  have hno : ∀ i e, ¬e ∈ s.entry i := fun i e h => by rw [he] at h; cases h
  {
  table := ⟨fun i e h => (hno i e h).elim, fun i _ e h => (hno i e h).elim⟩
  queue := by
    rw [queueLaw_iff]
    intro pl q hq
    have hnil : q = [] := by
      rcases pl with _ | n | p
      · exact (Option.some.inj hq).symm.trans ha
      · obtain ⟨b, hb, rfl⟩ := Option.map_eq_some_iff.mp hq
        exact ((hn n).2.2 b hb).2.1
      · exact (Option.some.inj hq).symm.trans (hc p)
    subst hnil
    exact ⟨List.nodup_nil, fun i => by simp [State.placeOf, he]⟩
  total := by simp [State.committedTotal, used_of_empty he]
  buffer := ⟨by simp [State.occupied, used_of_empty he], hb⟩
  node := ⟨fun n => ⟨(hn n).1, fun b hb => ((hn n).2.2 b hb).1⟩, fun n m b hb c hc => hpos n m b c hb hc,
    fun i e h => (hno i e h).elim, fun i e h => (hno i e h).elim⟩
  seq := by
    have hlive : ∀ n, s.liveSeqs n = [] := fun n => List.eq_nil_iff_forall_not_mem.mpr fun q hq => by
      obtain ⟨i, e, h, -⟩ := mem_liveSeqs.mp hq
      rw [he] at h; cases h
    refine ⟨fun n b hb => ?_, fun i e h => (hno i e h).elim, fun i _ e h => (hno i e h).elim⟩
    obtain ⟨-, hi, hab⟩ := ((hn n).2.2 b hb).2
    simp [State.usedSeqs, hlive, hi, hab]
  param := ⟨hp, fun n => (hn n).2.1⟩ }

theorem headWaits_of_empty {s : State} (ha : s.admission = []) : HeadWaits s := fun i hi => by simp [ha] at hi

/-- Settles O3: the part right after reset, evaluated. -/
theorem resetIsLawful : Obligations.ResetIsLawful := lawful_of_decide (by decide +kernel)

/-! ## RSTN -/

@[simp] theorem holdReset_entry (s : State) (i : EntryIx) : (holdReset s).entry i = none := reset_entry i
@[simp] theorem holdReset_node (s : State) (n : NodeIx) : (holdReset s).node n = .powerOn := reset_node n
@[simp] theorem holdReset_bound (s : State) (n : NodeIx) : (holdReset s).bound n = none := reset_bound n
@[simp] theorem holdReset_line (s : State) (l : LineIx) : (holdReset s).line l = .powerOn := reset_line l

theorem holdReset_sound {s : State} (hs : Sound s) : Sound (holdReset s) := by
  have hr : Lawful State.reset := resetIsLawful
  have hnode := fun n => reset_node n ▸ (hr.core.node.1 n).1
  have hparam := fun n => reset_node n ▸ hr.core.param.2 n
  exact ⟨core_of_empty (holdReset_entry s) rfl (fun p => by cases p <;> rfl)
    (fun n => ⟨by simpa using hnode n, by simpa using hparam n, by simp⟩) (fun n m b c hb => by simp at hb)
    hs.core.buffer.2 hr.core.param.1, headWaits_of_empty rfl, lineLaw_congr' (fun _ => rfl) rfl (fun _ => rfl) hr.lineLaw⟩

theorem releaseReset_sound {s : State} (hs : Sound s) : Sound (releaseReset s) := by
  by_cases hr : s.rstnLow = true
  · have hm : Descends s (releaseReset s) := by
      rw [releaseReset, if_pos hr]; exact ⟨fun _ e he => ⟨e, he, .refl e⟩, rfl, rfl⟩
    have hn : ∀ n, (releaseReset s).node n = s.node n := fun n => by rw [releaseReset, if_pos hr]; rfl
    have hq : (releaseReset s).queues = s.queues := State.queues_congr (fun i => by rw [releaseReset, if_pos hr]; rfl)
      (by rw [releaseReset, if_pos hr]) (fun n => by rw [State.bound, hn]; rfl) fun p => by rw [releaseReset_port hr]; rfl
    have ho : ∀ n, (releaseReset s).outlineAt n = s.outlineAt n := fun n => by rw [State.outlineAt, State.bound, hn]; rfl
    have hstep : ∀ n, (s.node n).StepsTo ((releaseReset s).node n) := fun n => by rw [hn]; exact .refl _
    refine ⟨hm.core hstep hs.core (queueLaw_of_queues hq hs.core.queue) (hm.follows.seqLaw_of_outline hstep hs.core.seq ho), ?_,
      lineLaw_congr' (fun k => by rw [releaseReset, if_pos hr]; rfl) hm.params (fun n => State.lineViewAt_of_outline (ho n)) hs.line⟩
    rw [releaseReset, if_pos hr]; exact hs.head
  · rw [releaseReset, if_neg hr]; exact hs

/-! ## DEVICE_RESET -/

@[simp] theorem restartDevice_entry (s : State) (i : EntryIx) : (restartDevice s).entry i = none := by
  simp [restartDevice, State.entry]

theorem restartDevice_node (s : State) (n : NodeIx) : (restartDevice s).node n = (s.node n).restarted (startHealth s) := by
  simp [restartDevice, State.node]

theorem restartDevice_bound (s : State) (n : NodeIx) :
    (restartDevice s).bound n =
      (s.bound n).map fun b => b.restarted (s.node n).params (startHealth s b.line) := by
  rw [State.bound, restartDevice_node, NodeRec.restarted, State.bound]
  cases (s.node n).bound <;> rfl

theorem restartDevice_line (s : State) (l : LineIx) :
    (restartDevice s).line l =
      { state := (s.line l).state.restarted (s.lineEnabled l), lastGranted := 3, counters := .zero } := by
  simp [restartDevice, State.line]

theorem restartDevice_port (s : State) (p : Port) : (restartDevice s).port p = (s.port p).flushed := by cases p <;> rfl

theorem NodeRec.restarted_rest (health : LineIx → Health) (r : NodeRec) :
    (r.restarted health).params = r.params ∧ (r.restarted health).counters = .zero := by
  unfold NodeRec.restarted
  split <;> exact ⟨rfl, rfl⟩

/-- A fresh record is lawful when its parameters are. -/
theorem BoundNode.restarted_lawful {params : NodeParams} (hp : params.lawful) {b : BoundNode} (hb : b.lawful) {health : Health}
    (hh : health.inService = false) : (b.restarted params health).lawful := by
  obtain ⟨-, -, -, -, hE, hS, -⟩ := hp
  obtain ⟨-, -, -, -, hadvert, -⟩ := hb
  have hserved : (b.restarted params health).health.inService = true → (b.restarted params health).advert.isSome = true := fun h => by
    rw [show (b.restarted params health).health = health from rfl, hh] at h
    cases h
  exact ⟨hE, hS, Nat.zero_le _, Nat.zero_le _, hadvert, hserved, (by simp [BoundNode.restarted, freshNode]),
    fun _ => ⟨rfl, rfl, rfl, rfl⟩⟩

theorem startHealth_cases (s : State) (l : LineIx) :
    (s.lineEnabled l = true ∧ startHealth s l = .probing (some s.now)) ∨ (s.lineEnabled l = false ∧ startHealth s l = .offline) := by
  unfold startHealth
  cases s.lineEnabled l <;> simp

theorem startHealth_rest (s : State) (l : LineIx) : (startHealth s l).inService = false ∧ startHealth s l ≠ .probing none := by
  rcases startHealth_cases s l with ⟨-, h⟩ | ⟨-, h⟩ <;> rw [h] <;> simp [Health.inService]

theorem LineState.restarted_lawful {s : State} {l : LineIx} {r : LineState} (hr : r.lawful s l) :
    (r.restarted (s.lineEnabled l)).lawful (restartDevice s) l := by
  have hstart : s.lineEnabled l = false → ∀ n b, (restartDevice s).bound n = some b → b.line = l → b.health = .offline :=
    fun hen n b hb hl => by
      rw [restartDevice_bound] at hb
      obtain ⟨c, -, rfl⟩ := Option.map_eq_some_iff.mp hb
      obtain rfl : c.line = l := hl
      change startHealth s c.line = .offline
      rw [startHealth, hen]; rfl
  cases r with
  | disabled => rw [LineState.restarted, hr.1]; exact ⟨hr.1, hstart hr.1⟩
  | idle =>
    have hen : s.lineEnabled l = true := hr
    rw [LineState.restarted, hen]; exact hen
  | exchanging pend x =>
    obtain ⟨h1, h2, h3, h4, h5, h6, -, -⟩ := hr
    exact ⟨h1, h2, h3, h4, h5, h6, fun _ => rfl, by simp⟩

theorem restartDevice_sound {s : State} (hs : Sound s) : Sound (restartDevice s) := by
  have hb : ∀ n b, (restartDevice s).bound n = some b →
      ∃ c, s.bound n = some c ∧ b = c.restarted (s.node n).params (startHealth s c.line) := fun n b hb => by
    rw [restartDevice_bound] at hb
    obtain ⟨c, hc, rfl⟩ := Option.map_eq_some_iff.mp hb
    exact ⟨c, hc, rfl⟩
  refine ⟨core_of_empty (restartDevice_entry s) rfl (fun p => by rw [restartDevice_port]; rfl) (fun n => ?_)
    (fun n m b c hbn hcm hl hd => ?_) hs.core.buffer.2 hs.core.param.1, headWaits_of_empty rfl, fun l => ?_, fun n b hbn q hq => ?_,
    fun n b hbn hh => ?_⟩
  · rw [restartDevice_node, (NodeRec.restarted_rest _ _).1, (NodeRec.restarted_rest _ _).2]
    refine ⟨⟨Nat.zero_le _, Nat.zero_le _, Nat.zero_le _, Nat.zero_le _⟩, hs.core.param.2 n, fun b hbn => ?_⟩
    obtain ⟨c, hc, rfl⟩ := hb n b hbn
    exact ⟨BoundNode.restarted_lawful (hs.core.param.2 n) ((hs.core.node.1 n).2 c hc) (startHealth_rest s c.line).1, rfl, rfl, rfl⟩
  · obtain ⟨b', hb', rfl⟩ := hb n b hbn
    obtain ⟨c', hc', rfl⟩ := hb m c hcm
    exact hs.core.node.2.1 n m b' hb' c' hc' hl hd
  · rw [restartDevice_line]
    exact ⟨⟨Nat.zero_le _, Nat.zero_le _, Nat.zero_le _, Nat.zero_le _, Nat.zero_le _⟩, LineState.restarted_lawful (hs.line.1 l).2⟩
  · obtain ⟨c, -, rfl⟩ := hb n b hbn
    cases hq
  · obtain ⟨c, -, rfl⟩ := hb n b hbn
    exact ((startHealth_rest s c.line).2 hh).elim

end Sys2Proof.Machine
end

section
/-! PROOFS. The host commands as frames, and the submits: their checks, the entry they take, and the laws they keep. -/

namespace Sys2Proof.Machine

/-! ## A host command of the table -/

/-- A host command is its frame received on its port and judged, its owner acting when it is intact (R158, R159). -/
theorem exec_hostFrame {i : Instr} {f : HostFrame} (hi : hostFrame i = some f) (s : State) :
    exec i s = .next (hostCommand f.port f.flags f.command f.check (runCommand f.port f.command) (s.advance f.time)) := by
  cases i <;> simp only [hostFrame, Option.some.injEq, reduceCtorEq] at hi <;> subst hi <;> rfl

/-- A frame that brings a command answers what its owner answers over the part with the frame received. -/
theorem exec_brings {i : Instr} {f : HostFrame} {c : HostCommand} {s u : State} {reply : Reply}
    (hi : hostFrame i = some ⟨f.time, f.port, f.flags, c, f.check⟩) (h : f.brings c s)
    (hrun : runCommand f.port c (f.received s) = (u, reply)) : exec i s = .next (respond f.port reply u) := by
  rw [exec_hostFrame hi]
  exact congrArg _ (hostCommand_answers h hrun)

/-! ## The operands -/

theorem tagOf_eq_some_iff {b : Byte} {k : Tag} : tagOf b = some k ↔ k.val = b.toNat := by
  unfold tagOf
  split <;> simp [Fin.ext_iff] <;> omega

theorem tagOf_eq_none_iff {b : Byte} : tagOf b = none ↔ 31 < b.toNat := by
  unfold tagOf
  split <;> simp <;> omega

theorem nodeOf_eq_some_iff {b : Byte} {n : NodeIx} : nodeOf b = some n ↔ n.val = b.toNat := by
  unfold nodeOf
  split <;> simp [Fin.ext_iff] <;> omega

theorem nodeOf_eq_none_iff {b : Byte} : nodeOf b = none ↔ 15 < b.toNat := by
  unfold nodeOf
  split <;> simp <;> omega

/-! ## Entries by their tag -/

theorem State.tagged_eq_none_iff {s : State} {p : Port} {k : Tag} :
    s.tagged p k = none ↔ ∀ i e, s.entry i = some e → e.port = p → e.tag ≠ k := by
  rw [State.tagged, List.find?_eq_none]
  constructor
  · intro h i e he hp hk
    exact h i (List.mem_finRange i) (State.holds_iff.mpr ⟨e, he, by simp [hp, hk]⟩)
  · intro h i _ hf
    obtain ⟨e, he, hf⟩ := State.holds_iff.mp hf
    simp only [Bool.and_eq_true, beq_iff_eq] at hf
    exact h i e he hf.1 hf.2

theorem State.tagged_eq_some {s : State} {p : Port} {k : Tag} {i : EntryIx} (h : s.tagged p k = some i) :
    ∃ e, s.entry i = some e ∧ e.port = p ∧ e.tag = k := by
  have hf := List.find?_some (p := fun i => s.holds i fun e => e.port == p && e.tag == k) h
  obtain ⟨e, he, hf⟩ := State.holds_iff.mp hf
  simp only [Bool.and_eq_true, beq_iff_eq] at hf
  exact ⟨e, he, hf⟩

/-- In a table whose tags are distinct the named entry is the one with the tag. -/
theorem State.tagged_of_names {s : State} (hs : TableLaw s) {p : Port} {k : Tag} {i : EntryIx} {e : Entry}
    (he : s.entry i = some e) (hp : e.port = p) (hk : e.tag = k) : s.tagged p k = some i := by
  cases h : s.tagged p k with
  | none => exact absurd hk (State.tagged_eq_none_iff.mp h i e he hp)
  | some j =>
    obtain ⟨f, hf, hfp, hfk⟩ := State.tagged_eq_some h
    rw [hs.2 j i f hf e he (hfp.trans hp.symm) (hfk.trans hk.symm)]

theorem State.firstFree_eq_some_iff {s : State} {i : EntryIx} : s.firstFree = some i ↔ s.isFirstFree i := by
  rw [State.firstFree, allEntries, ← Fin.find?_eq_find?_finRange, Fin.find?_eq_some_iff, State.isFirstFree]
  simp [Option.isNone_iff_eq_none, Option.ne_none_iff_isSome]

theorem State.firstFree_eq_none_iff {s : State} : s.firstFree = none ↔ ∀ i, (s.entry i).isSome = true := by
  rw [State.firstFree, List.find?_eq_none]
  simp [allEntries, Option.isSome_iff_ne_none]

/-! ## The checks of a submit -/

theorem firstFailure_nil : firstFailure [] = none := rfl

theorem firstFailure_cons (fails : Bool) (code : Code) (rest : List (Bool × Code)) :
    firstFailure ((fails, code) :: rest) = if fails then some code else firstFailure rest := by
  cases fails <;> rfl

theorem any_tagged_iff (s : State) (p : Port) {tag : Byte} {k : Tag} (hk : k.val = tag.toNat) :
    (allEntries.any fun i => s.holds i fun e => e.port == p && e.tag.val == tag.toNat) = true ↔ (s.tagged p k).isSome = true := by
  have hbyte : (fun e : Entry => e.port == p && e.tag.val == tag.toNat) = fun e => e.port == p && e.tag == k := by
    funext e
    rw [← hk, Bool.eq_iff_iff]
    simp [Fin.ext_iff]
  rw [hbyte, State.tagged, List.find?_isSome, List.any_eq_true]

/-- A test of the nodes that a node byte names is a test of the one node. -/
theorem any_node_iff {node : Byte} {n : NodeIx} (hn : n.val = node.toNat) (f : NodeIx → Bool) :
    (allNodes.any fun m => m.val == node.toNat && f m) = true ↔ f n = true := by
  simp only [List.any_eq_true, Bool.and_eq_true, beq_iff_eq, ← hn, Fin.val_inj]
  constructor
  · rintro ⟨m, -, rfl, hf⟩; exact hf
  · exact fun hf => ⟨n, List.mem_finRange n, rfl, hf⟩

theorem all_node_iff (node : Byte) (f : NodeIx → Bool) :
    (allNodes.all fun m => m.val != node.toNat || f m) = true ↔ ∀ n, nodeOf node = some n → f n = true := by
  simp only [List.all_eq_true, Bool.or_eq_true, bne_iff_ne, nodeOf_eq_some_iff]
  constructor
  · exact fun h n hn => (h n (List.mem_finRange n)).resolve_left (by simp [hn])
  · exact fun h n _ => or_iff_not_imp_left.mpr fun hn => h n (not_not.mp hn)

theorem all_used_iff (s : State) : (allEntries.all fun i => (s.entry i).isSome) = true ↔ s.firstFree = none := by
  rw [State.firstFree_eq_none_iff, List.all_eq_true]
  exact ⟨fun h i => h i (List.mem_finRange i), fun h i _ => h i⟩

theorem State.isOffline_iff {s : State} {n : NodeIx} {b : BoundNode} (hb : s.bound n = some b) :
    s.isOffline n = true ↔ b.health = .offline := by
  simp [State.isOffline, hb]

/-- What the submit checks answer: the first that fails, or the tag, the node and the entry when none does (R165). -/
theorem submitChecks_spec (p : Port) (tag node : Byte) (bad : Bool) (need : Nat) (s : State) :
    (∃ code, submitChecks p tag node (!bad) need s = .inl code ∧
      firstFailure (submitTests s p tag node bad need) = some code) ∨
    ∃ k n i b, submitChecks p tag node (!bad) need s = .inr (k, n, i) ∧
      firstFailure (submitTests s p tag node bad need) = none ∧ k.val = tag.toNat ∧ n.val = node.toNat ∧ s.isFirstFree i ∧
      s.tagged p k = none ∧ bad = false ∧ s.bound n = some b ∧ b.health ≠ .offline ∧ need ≤ s.params.limit := by
  unfold submitTests
  simp only [firstFailure_cons, firstFailure_nil, decide_eq_true_eq, all_used_iff, all_node_iff]
  unfold submitChecks
  cases hk : tagOf tag with
  | none => exact .inl ⟨.badTag, rfl, if_pos (tagOf_eq_none_iff.mp hk)⟩
  | some k =>
    have hk' := tagOf_eq_some_iff.mp hk
    have htag : ¬31 < tag.toNat := by omega
    simp only [any_tagged_iff s p hk', htag, if_false]
    by_cases ht : (s.tagged p k).isSome = true
    · exact .inl ⟨.tagInUse, by simp [ht], by simp [ht]⟩
    cases bad with
    | true => exact .inl ⟨.badLength, by simp [ht], by simp [ht]⟩
    | false =>
      simp only [ht, if_false, Bool.not_false, reduceCtorEq]
      cases hn : nodeOf node with
      | none => exact .inl ⟨.nodeUnknown, rfl, by simp⟩
      | some n =>
        have hn' := nodeOf_eq_some_iff.mp hn
        cases hb : s.bound n with
        | none => exact .inl ⟨.nodeUnknown, by simp [hb], by simp [hb]⟩
        | some b =>
          simp only [any_node_iff hn', State.isOffline_iff hb, hb, Option.some.injEq, forall_eq', Option.isNone_some,
            Bool.false_eq_true, if_false]
          by_cases ho : b.health = .offline
          · exact .inl ⟨.nodeOffline, by simp [ho], by simp [ho]⟩
          by_cases hc : s.ceiling p ≤ s.occupancy p
          · exact .inl ⟨.portLimit, by simp [ho, hc], by simp [ho, hc]⟩
          cases hi : s.firstFree with
          | none => exact .inl ⟨.tableFull, by simp [ho, hc], by simp [ho, hc]⟩
          | some i =>
            by_cases hl : s.params.limit < need
            · exact .inl ⟨.exceedsLimit, by simp [ho, hc, hl], by simp [ho, hc, hl]⟩
            · exact .inr ⟨k, n, i, b, by simp [ho, hc, hl], by simp [ho, hc, hl], hk', hn', State.firstFree_eq_some_iff.mp hi,
                by simpa using ht, trivial, hb, ho, by omega⟩

/-! ## The submits -/

/-- The submit tests read nothing that the reception of a frame changes. -/
theorem submitTests_received (f : HostFrame) (s : State) (p : Port) (tag node : Byte) (bad : Bool) (need : Nat) :
    submitTests (f.received s) p tag node bad need = submitTests s p tag node bad need := by
  simp [submitTests, State.holds, State.isOffline, State.occupancy, State.entriesWhere] <;> rfl

theorem readLength_ok (len : Word) :
    (decide (1 ≤ len.toNat) && decide (len.toNat ≤ 256)) = !decide (len.toNat = 0 ∨ 256 < len.toNat) := by
  rw [Bool.eq_iff_iff]
  simp
  omega

/-- A write payload that a frame can hold is too long for no entry. -/
theorem writeLength_ok {payload : List Byte} (h : payload.length ≤ 64) :
    (decide (1 ≤ payload.length) && decide (payload.length ≤ 64)) = !decide (payload = []) := by
  cases payload with
  | nil => rfl
  | cons a rest => simpa using h

theorem submitWrite_payload_le {f : HostFrame} {tag node : Byte} {addr : Word} {payload : List Byte} {s : State}
    (h : f.brings (.submitWrite tag node addr payload) s) : payload.length ≤ 64 := by
  obtain ⟨hc, -, -, hl, -⟩ := h
  rw [hc] at hl
  simp [HostCommand.payload, maxDeclared, wordBytes] at hl
  omega

/-- Settles O18: the checks answer what the first failing test answers. -/
theorem submitChecksDecideInOrder : Obligations.SubmitChecksDecideInOrder := by
  refine ⟨fun f tag node addr len code s hf hfail => exec_brings rfl hf ?_,
    fun f tag node addr payload code s hf hfail => exec_brings rfl hf ?_⟩
  · rw [← submitTests_received f] at hfail
    rcases submitChecks_spec f.port tag node (decide (len.toNat = 0 ∨ 256 < len.toNat)) ((len.toNat + 15) / 16) (f.received s) with
      ⟨c, hc, hcode⟩ | ⟨_, _, _, _, _, hnone, _⟩
    · obtain rfl := Option.some.inj (hcode.symm.trans hfail)
      simp only [runCommand, submitReadOp, readLength_ok, blocksFor, hc]
      rfl
    · rw [hnone] at hfail; cases hfail
  · rw [← submitTests_received f] at hfail
    rcases submitChecks_spec f.port tag node (decide (payload = [])) 0 (f.received s) with
      ⟨c, hc, hcode⟩ | ⟨_, _, _, _, _, hnone, _⟩
    · obtain rfl := Option.some.inj (hcode.symm.trans hfail)
      simp only [runCommand, submitWriteOp, writeLength_ok (submitWrite_payload_le hf), hc]
      rfl
    · rw [hnone] at hfail; cases hfail

theorem State.isFirstFree_unique {s : State} {i j : EntryIx} (hi : s.isFirstFree i) (hj : s.isFirstFree j) : i = j := by
  rcases lt_trichotomy i j with h | h | h
  · exact absurd hi.1 (hj.2 i h)
  · exact h
  · exact absurd hj.1 (hi.2 j h)

theorem State.isFirstFree_received {f : HostFrame} {s : State} {i : EntryIx} :
    (f.received s).isFirstFree i ↔ s.isFirstFree i := by
  simp [State.isFirstFree]

/-- Settles O19: an accepted submit takes the entry that the checks name. -/
theorem submitIsAccepted : Obligations.SubmitIsAccepted := by
  intro f tag node addr k n i s hk hn hi new
  have accepted : ∀ bad need, firstFailure (submitTests s f.port tag node bad need) = none →
      submitChecks f.port tag node (!bad) need (f.received s) = .inr (k, n, i) := fun bad need hpass => by
    rw [← submitTests_received f] at hpass
    rcases submitChecks_spec f.port tag node bad need (f.received s) with ⟨c, -, hcode⟩ | ⟨k', n', i', _, h, -, hk', hn', hi', -⟩
    · rw [hcode] at hpass; cases hpass
    · rw [h, Fin.ext (hk'.trans hk.symm), Fin.ext (hn'.trans hn.symm),
        State.isFirstFree_unique (State.isFirstFree_received.mp hi') hi]
  refine ⟨fun len hf hpass => ?_, fun payload hf hpass => exec_brings rfl hf ?_⟩
  · have hadm : (s.admission.isEmpty && fits (f.received s) ((len.toNat + 15) / 16)) = true ↔
        s.admission = [] ∧ s.committedTotal + (len.toNat + 15) / 16 ≤ s.params.limit := by
      simp [fits, List.isEmpty_iff]
    by_cases h : s.admission = [] ∧ s.committedTotal + (len.toNat + 15) / 16 ≤ s.params.limit
    · dsimp only
      rw [if_pos h]
      refine exec_brings rfl hf ?_
      simp only [runCommand, submitReadOp, readLength_ok, blocksFor, accepted _ _ hpass, received_admission, hadm.mpr h, if_true]
      rfl
    · dsimp only
      rw [if_neg h]
      refine exec_brings rfl hf ?_
      simp only [runCommand, submitReadOp, readLength_ok, blocksFor, accepted _ _ hpass, received_admission, mt hadm.mp h,
        Bool.false_eq_true, if_false]
      simp [newEntry, new]
      rfl
  · simp only [runCommand, submitWriteOp, writeLength_ok (submitWrite_payload_le hf), accepted _ _ hpass]
    rfl

end Sys2Proof.Machine
end

section
/-! PROOFS. The laws when an entry is taken, and the soundness of the submits. -/

namespace Sys2Proof.Machine

/-! ## An entry taken -/

/-- The law on the seqs when no live and no issuing seq has come up. -/
theorem seqLaw_of_outline {s u : State} (hs : SeqLaw s)
    (he : ∀ i e, u.entry i = some e → e.phase.atNode = true → s.entry i = some e) (ho : ∀ n, u.outlineAt n = s.outlineAt n) :
    SeqLaw u := by
  obtain ⟨hused, hissuing, hone⟩ := hs
  have hbound : ∀ n b', u.bound n = some b' → ∃ b, s.bound n = some b ∧ b'.issuingSeq = b.issuingSeq ∧ b'.abandoned = b.abandoned :=
    fun n b' hb' => by
      have h := ho n
      rw [State.outlineAt, hb', Option.map_some] at h
      obtain ⟨b, hb, hout⟩ := Option.map_eq_some_iff.mp h.symm
      obtain ⟨-, -, -, hi, -, ha⟩ := outline_eq hout.symm
      exact ⟨b, hb, hi, ha⟩
  have hback : ∀ n b, s.bound n = some b → ∃ b', u.bound n = some b' ∧ b'.issuingSeq = b.issuingSeq := fun n b hb => by
    have h := ho n
    rw [State.outlineAt, State.outlineAt, hb, Option.map_some] at h
    obtain ⟨b', hb', hout⟩ := Option.map_eq_some_iff.mp h
    exact ⟨b', hb', (outline_eq hout).2.2.2.1⟩
  have hsub : ∀ n, u.liveSeqs n ⊆ s.liveSeqs n := fun n q hq => by
    obtain ⟨i, e, hi, hn, hl⟩ := mem_liveSeqs.mp hq
    exact mem_liveSeqs.mpr ⟨i, e, he i e hi (Phase.atNode_of_live (by rw [hl]; rfl)), hn, hl⟩
  refine ⟨fun n b' hb' => ?_, fun i e hi hq => ?_, fun i j e hi f hj hei hfj hn => ?_⟩
  · obtain ⟨b, hb, hbi, hba⟩ := hbound n b' hb'
    obtain ⟨hnd, hlen⟩ := hused n b hb
    obtain ⟨hlive, hab, hiss, hal⟩ := nodup_usedSeqs.mp hnd
    have hlive' : (u.liveSeqs n).Nodup := by
      rw [nodup_liveSeqs] at hlive ⊢
      exact fun i j e f q hi hj hen hfn hq hq' => hlive i j e f q (he i e hi (Phase.atNode_of_live (by rw [hq]; rfl)))
        (he j f hj (Phase.atNode_of_live (by rw [hq']; rfl))) hen hfn hq hq'
    have hnd' : (u.usedSeqs n b').Nodup := nodup_usedSeqs.mpr ⟨hlive', hba ▸ hab,
      fun q hq => ⟨fun h => (hiss q (hbi ▸ hq)).1 (hsub n h), hba ▸ (hiss q (hbi ▸ hq)).2⟩, fun q hq h => hal q (hba ▸ hq) (hsub n h)⟩
    refine ⟨hnd', usedSeqs_of_subset hlen hnd' fun q hq => mem_usedSeqs.mpr ?_⟩
    exact (mem_usedSeqs.mp hq).imp (fun h => hsub n h) (Or.imp (fun h => hbi ▸ h) fun h => hba ▸ h)
  · obtain ⟨b, hb, hbq⟩ := hissuing i e (he i e hi (Phase.atNode_of_issuing hq)) hq
    obtain ⟨b', hb', hbi⟩ := hback e.node b hb
    exact ⟨b', hb', hbi.trans hbq⟩
  · exact hone i j e (he i e hi (Phase.atNode_of_issuing hei)) f (he j f hj (Phase.atNode_of_issuing hfj)) hei hfj hn

/-- What the taking of a FREE entry changes: the entry, and the queue in which it then stands. -/
structure Takes (i : EntryIx) (e : Entry) (pl : Place) (s u : State) : Prop where
  free : s.entry i = none
  place : e.place = some pl
  entry : ∀ j, u.entry j = if i = j then some e else s.entry j
  queue : ∀ pl', u.queueAt pl' = (s.queueAt pl').map fun q => q ++ if pl = pl' then [i] else []
  node : ∀ n, (s.node n).StepsTo (u.node n)
  outline : ∀ n, u.outlineAt n = s.outlineAt n
  params : u.params = s.params
  buffer : u.buffer = s.buffer

section
variable {i : EntryIx} {e : Entry} {pl : Place} {s u : State} (h : Takes i e pl s u)
include h

theorem Takes.entry_cases {j : EntryIx} {f : Entry} (hf : u.entry j = some f) : (j = i ∧ f = e) ∨ (j ≠ i ∧ s.entry j = some f) := by
  rw [h.entry] at hf
  split at hf
  · rename_i hij; exact .inl ⟨hij.symm, (Option.some.inj hf).symm⟩
  · rename_i hij; exact .inr ⟨fun hji => hij hji.symm, hf⟩

theorem Takes.queueLaw (hs : QueueLaw s) : QueueLaw u := by
  have hplace : ∀ j, u.placeOf j = if i = j then some pl else s.placeOf j := fun j => by
    rw [State.placeOf, h.entry]
    split
    · exact h.place
    · rfl
  refine queueLaw_of_moves hs (List.nodup_singleton i) (fun j hj => ?_) fun pl' q' hq' => ?_
  · rw [hplace, if_neg (fun hij => hj (by simp [hij]))]
  · rw [h.queue] at hq'
    obtain ⟨q, hq, rfl⟩ := Option.map_eq_some_iff.mp hq'
    refine ⟨q, hq, ?_⟩
    have hi : i ∉ q := by rw [hs.mem_iff hq]; simp [State.placeOf, h.free]
    rw [filter_notMem_singleton, removed_of_notMem hi]
    refine .append_left _ ?_
    simp only [List.filter_cons, List.filter_nil, hplace, if_true, Option.some.injEq, decide_eq_true_eq]
    split <;> rfl

theorem Takes.committedTotal : u.committedTotal = s.committedTotal + e.committed := by
  have ht := committedTotal_update (s := s) (u := u) (i := i) fun j hj => by rw [h.entry, if_neg hj.symm]
  have hs : s.committedAt i = 0 := by simp [State.committedAt, h.free]
  have hu : u.committedAt i = e.committed := by simp [State.committedAt, h.entry]
  omega

/-- The laws when an entry is taken that is open and not out at its node (R5, R28, R29). -/
theorem Takes.core (hs : Core s) (hl : e.lawful) (htag : ∀ j f, s.entry j = some f → f.port = e.port → f.tag ≠ e.tag)
    (hblocks : e.blocks = []) (hout : e.phase.atNode = false) (hnode : ∃ b, s.bound e.node = some b ∧ b.health ≠ .offline)
    (hroom : s.committedTotal + e.committed ≤ s.params.limit) : Core u where
  table := by
    refine ⟨fun j f hf => ?_, fun j k f hf g hg hp ht => ?_⟩
    · rcases h.entry_cases hf with ⟨-, rfl⟩ | ⟨-, hf⟩
      · exact hl
      · exact hs.table.1 j f hf
    · rcases h.entry_cases hf with ⟨hj, rfl⟩ | ⟨-, hf⟩ <;> rcases h.entry_cases hg with ⟨hk, rfl⟩ | ⟨-, hg⟩
      · rw [hj, hk]
      · exact absurd ht.symm (htag k g hg hp.symm)
      · exact absurd ht (htag j f hf hp)
      · exact hs.table.2 j k f hf g hg hp ht
  queue := h.queueLaw hs.queue
  total := by rw [h.committedTotal, h.params]; exact hroom
  buffer := by
    refine ⟨occupied_nodup_of hs.buffer.1 fun j => ?_, by rw [h.buffer]; exact hs.buffer.2⟩
    rw [State.blocksAt, h.entry]
    split
    · simp [hblocks]
    · exact .refl _
  node := by
    refine nodeLaw_of h.node hs.node (fun j f hf ho => ?_) fun j f hf hlive => ?_
    · rcases h.entry_cases hf with ⟨-, rfl⟩ | ⟨-, hf⟩
      · exact hnode
      · exact hs.node.2.2.1 j f hf ho
    · rcases h.entry_cases hf with ⟨-, rfl⟩ | ⟨-, hf⟩
      · rw [Phase.atNode_of_live hlive] at hout; cases hout
      · exact hs.node.2.2.2 j f hf hlive
  seq := seqLaw_of_outline hs.seq (fun j f hf ha => by
    rcases h.entry_cases hf with ⟨-, rfl⟩ | ⟨-, hf⟩
    · rw [ha] at hout; cases hout
    · exact hf) h.outline
  param := ⟨by rw [h.params]; exact hs.param.1, fun n => by rw [(h.node n).params]; exact hs.param.2 n⟩

end

/-! ## The submits -/

/-- The record of a new entry. -/
theorem newEntry_lawful {p : Port} {k : Tag} {n : NodeIx} {addr : Word} {kind : Kind} {length : Nat} {payload : List Byte}
    {committed : Nat} {phase : Phase}
    (hk : (newEntry p k n kind addr length payload committed phase).kindLaw)
    (hp : (newEntry p k n kind addr length payload committed phase).phaseLaw) :
    (newEntry p k n kind addr length payload committed phase).lawful :=
  ⟨Nat.zero_le _, (by simp [newEntry, blocksFor]), Nat.zero_le _, hk, hp⟩

theorem takes_ready {s : State} {i : EntryIx} {e : Entry} (hi : s.entry i = none) (hr : e.phase = .ready) {b : BoundNode}
    (hb : s.bound e.node = some b) (hh : b.health ≠ .offline) :
    Takes i e (.issue e.node) s (queueLast e.node i (s.setEntry i (some e))) where
  free := hi
  place := Entry.place_eq_issue.mpr ⟨rfl, hr⟩
  entry := fun j => by rw [queueLast, State.modIssueQueue_entry, State.setEntry_entry]
  queue := fun pl => by
    rcases pl with _ | m | p
    · simp [State.queueAt, queueLast]
    · simp only [State.queueAt, State.bound, queueLast, State.modIssueQueue_node, State.setEntry_node, Place.issue.injEq]
      by_cases hm : e.node = m
      · subst hm
        simp [show (s.node e.node).bound = some b from hb]
      · simp [hm, Function.comp_def]
    · simp [State.queueAt, queueLast]
  node := fun m => by
    rw [queueLast, State.modIssueQueue_node]
    split
    · rename_i hm; subst hm
      exact NodeRec.stepsTo_map fun c hc => BoundNode.stepsTo_issueQueue (by
        obtain rfl := Option.some.inj (hb.symm.trans hc); exact hh) _
    · exact .refl _
  outline := fun m => State.modBound_outlineAt (f := fun b => { b with issueQueue := b.issueQueue ++ [i] }) (fun _ _ => rfl) m
  params := rfl
  buffer := rfl

theorem takes_waiting {s : State} {i : EntryIx} {e : Entry} (hi : s.entry i = none) (hr : e.phase = .waiting) :
    Takes i e .admission s { s.setEntry i (some e) with admission := s.admission ++ [i] } where
  free := hi
  place := Entry.place_eq_admission.mpr hr
  entry := fun j => State.setEntry_entry ..
  queue := fun pl => by
    rcases pl with _ | m | p
    · simp [State.queueAt]
    · simp [State.queueAt, State.bound, State.node, State.setEntry, Function.comp_def]
    · cases p <;> simp [State.queueAt, State.port, State.setEntry]
  node := fun _ => .refl _
  outline := fun _ => rfl
  params := rfl
  buffer := rfl

/-- A port that has been sound and a taken entry that leaves room as it was. -/
theorem Takes.sound {i : EntryIx} {e : Entry} {pl : Place} {s u : State} (h : Takes i e pl s u) (hcore : Core u) (hs : Sound s)
    (hline : ∀ k, u.line k = s.line k) (hhead : HeadWaits u) : Sound u :=
  ⟨hcore, hhead, lineLaw_congr' hline h.params (fun n => State.lineViewAt_of_outline (h.outline n)) hs.line⟩

theorem submitReadOp_sound {s : State} (hs : Sound s) (p : Port) (tag node : Byte) (addr len : Word) :
    Sound (submitReadOp p tag node addr len s).1 := by
  have hspec := submitChecks_spec p tag node (decide (len.toNat = 0 ∨ 256 < len.toNat)) (blocksFor len.toNat) s
  simp only [submitReadOp, readLength_ok]
  rcases hspec with ⟨c, hc, -⟩ | ⟨k, n, i, b, hc, -, hk, hn, hi, htag, hlen, hb, hh, hlim⟩ <;> rw [hc]
  · exact hs
  · have hlen : ¬(len.toNat = 0 ∨ 256 < len.toNat) := of_decide_eq_false hlen
    have htag := State.tagged_eq_none_iff.mp htag
    have hkind : ∀ c ph, (newEntry p k n .read addr len.toNat [] c ph).kindLaw := fun c ph => by
      refine ⟨?_, ?_, rfl⟩ <;> simp only [newEntry] <;> omega
    dsimp only
    split
    · rename_i hfits
      simp only [Bool.and_eq_true, List.isEmpty_iff, fits, decide_eq_true_eq] at hfits
      have ht := takes_ready (e := newEntry p k n .read addr len.toNat [] (blocksFor len.toNat) .ready) hi.1 rfl hb hh
      refine ht.sound (ht.core hs.core (newEntry_lawful (hkind _ _) ⟨rfl, rfl, rfl, rfl⟩)
        htag rfl rfl ⟨b, hb, hh⟩ hfits.2) hs (fun _ => rfl) fun j hj => ?_
      have hj : j ∈ s.admission.head? := hj
      rw [hfits.1] at hj
      cases hj
    · rename_i hfits
      have ht := takes_waiting (e := newEntry p k n .read addr len.toNat [] 0 .waiting) hi.1 rfl
      have hcore := ht.core hs.core (newEntry_lawful (hkind _ _) ⟨rfl, rfl, rfl, rfl⟩) htag rfl rfl ⟨b, hb, hh⟩
        (by simpa [newEntry] using hs.core.total)
      refine modPort_sound (ht.sound hcore hs (fun _ => rfl) fun j hj f hf => ?_) rfl
      have htotal : fits { s.setEntry i (some (newEntry p k n .read addr len.toNat [] 0 .waiting)) with
          admission := s.admission ++ [i] } f.need = fits s f.need := by
        rw [fits, fits, ht.committedTotal, ht.params]; rfl
      rw [htotal]
      rcases ht.entry_cases hf with ⟨rfl, rfl⟩ | ⟨hji, hf⟩
      · cases hadm : s.admission with
        | nil =>
          change fits s (blocksFor len.toNat) = false
          simpa [hadm] using hfits
        | cons a rest =>
          have hja : a = j := by simpa [hadm] using hj
          subst hja
          obtain ⟨g, hg, -⟩ := hs.core.queue.head_waiting (i := a) (by simp [hadm])
          rw [hi.1] at hg; cases hg
      · refine hs.head j ?_ f hf
        cases hadm : s.admission with
        | nil => simp [hadm] at hj; exact absurd hj.symm hji
        | cons a rest => simpa [hadm] using hj

theorem submitWriteOp_sound {s : State} (hs : Sound s) (p : Port) (tag node : Byte) (addr : Word) {payload : List Byte}
    (hlen : payload.length ≤ 64) : Sound (submitWriteOp p tag node addr payload s).1 := by
  simp only [submitWriteOp, writeLength_ok hlen]
  rcases submitChecks_spec p tag node (decide (payload = [])) 0 s with
    ⟨c, hc, -⟩ | ⟨k, n, i, b, hc, -, -, -, hi, htag, hne, hb, hh, -⟩ <;> rw [hc]
  · exact hs
  · have hpos : 1 ≤ payload.length := by
      have : payload ≠ [] := of_decide_eq_false hne
      exact List.length_pos_iff.mpr this
    have ht := takes_ready (e := newEntry p k n .write addr payload.length payload 0 .ready) hi.1 rfl hb hh
    have hcore := ht.core hs.core (newEntry_lawful ⟨hpos, hlen, rfl, rfl, rfl⟩ ⟨rfl, rfl, rfl, rfl⟩)
      (State.tagged_eq_none_iff.mp htag) rfl rfl ⟨b, hb, hh⟩ (by simpa [newEntry] using hs.core.total)
    have htotal := ht.committedTotal
    refine ht.sound hcore hs (fun _ => rfl) (headWaits_of hs.head hcore.queue (fun j f hf hw => ?_) rfl (by omega) (by rw [ht.params]))
    rcases ht.entry_cases hf with ⟨-, rfl⟩ | ⟨-, hf⟩
    · cases hw
    · exact hf

end Sys2Proof.Machine
end

section
/-! PROOFS. The laws under the host commands that ask, collect, cancel and clear counters. -/

namespace Sys2Proof.Machine

theorem cancelEntry_sound {s : State} (hs : Sound s) {i : EntryIx} {e : Entry} (he : s.entry i = some e) :
    Sound (cancelEntry i e s) := by
  have hview : (finish .cancelled i (abandonLive e s)).lineViewAt e.node = s.lineViewAt e.node := by
    have h : (finish .cancelled i (abandonLive e s)).outlineAt e.node = (abandonLive e s).outlineAt e.node := by simp
    rw [State.lineViewAt_of_outline h]
    cases hq : e.phase.liveSeq with
    | none => rw [abandonLive_none s hq]
    | some q => rw [abandonLive_some s hq]; exact lineViewAt_abandonSeq e.node q s e.node
  exact ((cancel_handles hs.core he).keeps hs.line hview).sound_retest hs

theorem cancelOp_sound {s : State} (hs : Sound s) (p : Port) (tag : Byte) : Sound (cancelOp p tag s).1 := by
  unfold cancelOp
  split
  · exact hs
  · split
    · exact hs
    · split
      · exact hs
      · split
        · exact cancelEntry_sound hs ‹_›
        · exact hs

theorem queryOp_state (p : Port) (tag : Byte) (s : State) : (queryOp p tag s).1 = s := by
  unfold queryOp
  split
  · rfl
  · split
    · rfl
    · split <;> rfl

theorem getParamOp_state (p : Port) (num : Nat) (s : State) : (getParamOp p num s).1 = s := by
  unfold getParamOp
  split <;> rfl

theorem collectHead_sound {s : State} (hs : Sound s) (p : Port) : Sound (collectHead p s).1 := by
  unfold collectHead
  split
  · exact hs
  · split
    · exact hs
    · split
      · exact modPort_sound hs (f := fun r => { r with collect := some ⟨_, false⟩ }) rfl
      all_goals exact hs

theorem portStatusOp_sound {s : State} (hs : Sound s) (p : Port) (clear : Bool) : Sound (portStatusOp p clear s).1 := by
  cases clear
  · exact hs
  · exact modPort_sound hs (f := fun r => { r with discards := 0, counters := .zero }) rfl

theorem readEventsOp_sound {s : State} (hs : Sound s) (p : Port) : Sound (readEventsOp p s).1 :=
  modPort_sound hs (f := fun r => { r with readMarker := some r.events }) rfl

/-- The counters of a node cleared (R169). -/
theorem clearNode_sound {s : State} (hs : Sound s) (n : NodeIx) : Sound (s.modNode n fun r => { r with counters := .zero }) := by
  have hstep : (s.node n).StepsTo { s.node n with counters := .zero } :=
    ⟨rfl, fun _ => ⟨Nat.zero_le _, Nat.zero_le _, Nat.zero_le _, Nat.zero_le _⟩, optionRel_refl BoundNode.StepsTo.refl _⟩
  have hsame : ∀ b b', s.bound n = some b → (s.node n).bound = some b' → b' = b := fun b b' hb hb' =>
    Option.some.inj (hb'.symm.trans hb)
  have h := modNode_handles hs.core (f := fun r => { r with counters := .zero }) hstep fun b b' hb hb' => by
    obtain rfl := hsame b b' hb hb'
    exact ⟨rfl, rfl, .refl _, id⟩
  exact (h.keeps hs.line (State.lineViewAt_of_outline (State.modNode_outlineAt rfl n))).sound hs rfl rfl rfl

theorem nodeStatusOp_sound {s : State} (hs : Sound s) (node : Byte) (clear : Bool) : Sound (nodeStatusOp node clear s).1 := by
  unfold nodeStatusOp
  split
  · exact hs
  · cases clear
    · exact hs
    · exact clearNode_sound hs _

theorem lineStatusOp_sound {s : State} (hs : Sound s) (line : Byte) (clear : Bool) : Sound (lineStatusOp line clear s).1 := by
  unfold lineStatusOp
  split
  · exact hs
  · cases clear
    · exact hs
    · rename_i l _
      exact (countLine_keeps hs.core hs.line (l := l) (f := fun _ => .zero) fun _ _ =>
        ⟨Nat.zero_le _, Nat.zero_le _, Nat.zero_le _, Nat.zero_le _, Nat.zero_le _⟩).sound hs rfl rfl rfl

theorem deviceResetOp_sound {s : State} (hs : Sound s) (p : Port) : Sound (deviceResetOp p s).1 := by
  unfold deviceResetOp
  split
  · exact hs
  · exact restartDevice_sound hs

end Sys2Proof.Machine
end

section
/-! PROOFS. PORT_RESET: what the flush of the entries of a port leaves, and the laws under it. -/

namespace Sys2Proof.Machine

/-! ## An entry made FREE, whatever its state -/

/-- A freed entry leaves the issue queue in which it stands, whichever it is. -/
theorem freeEntry_node {s : State} (hs : QueueLaw s) (i : EntryIx) (n : NodeIx) :
    (freeEntry i s).node n =
      { s.node n with bound := (s.bound n).map fun b => { b with issueQueue := removed i b.issueQueue } } := by
  have hqueue := freeEntry_queueAt hs i (.issue n)
  have hmap : (freeEntry i s).node n = s.node n ∨ (freeEntry i s).node n =
      { s.node n with bound := (s.bound n).map fun b => { b with issueQueue := removed i b.issueQueue } } := by
    cases he : s.entry i with
    | none => exact .inl (by rw [freeEntry_of_none he])
    | some e =>
      rw [freeEntry_eq he, State.setEntry_node, leaveQueue_node]
      split
      · exact .inr rfl
      · exact .inl rfl
  rcases hmap with h | h
  · rw [h]
    simp only [State.queueAt, State.bound, h] at hqueue
    cases hb : s.bound n with
    | none => rw [Option.map_none, ← hb]; rfl
    | some b =>
      rw [State.bound] at hb
      simp only [hb, Option.map_some, Option.some.injEq] at hqueue
      rw [Option.map_some, ← hqueue, ← hb]
  · exact h

/-- A freed entry leaves the completion queue in which it stands. -/
theorem freeEntry_port {s : State} (hs : QueueLaw s) (i : EntryIx) (p : Port) :
    (freeEntry i s).port p = { s.port p with completion := removed i (s.port p).completion } := by
  have hqueue := freeEntry_queueAt hs i (.completion p)
  have hmap : (freeEntry i s).port p = s.port p ∨
      (freeEntry i s).port p = { s.port p with completion := removed i (s.port p).completion } := by
    cases he : s.entry i with
    | none => exact .inl (by rw [freeEntry_of_none he])
    | some e =>
      rw [freeEntry_eq he, State.setEntry_port, leaveQueue_port]
      split
      · exact .inr rfl
      · exact .inl rfl
  rcases hmap with h | h
  · rw [h]
    simp only [State.queueAt, h, Option.map_some, Option.some.injEq] at hqueue
    rw [← hqueue]
  · exact h

theorem freeEntry_admission {s : State} (hs : QueueLaw s) (i : EntryIx) : (freeEntry i s).admission = removed i s.admission :=
  Option.some.inj (freeEntry_queueAt hs i .admission)

/-! ## Seqs abandoned one after the other -/

/-- An abandoned set with several seqs added. -/
def withSeqs (qs set : List Seq) : List Seq := qs.foldl (fun set q => withSeq q set) set

theorem mem_withSeqs {qs set : List Seq} {q : Seq} : q ∈ withSeqs qs set ↔ q ∈ set ∨ q ∈ qs := by
  induction qs generalizing set with
  | nil => simp [withSeqs]
  | cons r rest ih =>
    rw [withSeqs, List.foldl_cons, ← withSeqs, ih, mem_withSeq, List.mem_cons]
    tauto

theorem nodup_withSeqs {set : List Seq} (h : set.Nodup) (qs : List Seq) : (withSeqs qs set).Nodup := by
  induction qs generalizing set with
  | nil => exact h
  | cons r rest ih => exact ih (nodup_withSeq r set)

theorem withSeqs_append (qs rs set : List Seq) : withSeqs (qs ++ rs) set = withSeqs rs (withSeqs qs set) := List.foldl_append ..

/-- The live seq at node `n` of the entry at `i`. -/
def State.seqAt (s : State) (n : NodeIx) (i : EntryIx) : Option Seq :=
  (s.entry i).bind fun e => if e.node = n then e.phase.liveSeq else none

theorem State.seqAt_eq_some {s : State} {n : NodeIx} {i : EntryIx} {q : Seq} :
    s.seqAt n i = some q ↔ ∃ e, s.entry i = some e ∧ e.node = n ∧ e.phase.liveSeq = some q := by
  simp only [State.seqAt, Option.bind_eq_some_iff]
  refine exists_congr fun e => and_congr_right fun _ => ?_
  split <;> simp [*]

theorem abandonLive_node (e : Entry) (s : State) (n : NodeIx) :
    (abandonLive e s).node n =
      { s.node n with
        bound := (s.bound n).map fun b =>
          { b with abandoned := withSeqs (if e.node = n then e.phase.liveSeq else none).toList b.abandoned } } := by
  have hid : s.node n = { s.node n with bound := (s.bound n).map fun b => { b with abandoned := withSeqs [] b.abandoned } } := by
    change s.node n = { s.node n with bound := (s.bound n).map id }
    rw [Option.map_id]; rfl
  cases hq : e.phase.liveSeq with
  | none => rw [abandonLive_none s hq]; simpa using hid
  | some q =>
    rw [abandonLive_some s hq, State.modBound_node]
    split
    · rename_i h; subst h; rfl
    · exact hid

@[simp] theorem abandonLive_queues (e : Entry) (s : State) : (abandonLive e s).queues = s.queues := by
  cases hq : e.phase.liveSeq with
  | none => rw [abandonLive_none s hq]
  | some q => rw [abandonLive_some s hq]; exact abandonSeq_queues e.node q s

@[simp] theorem abandonLive_entry (e : Entry) (s : State) (i : EntryIx) : (abandonLive e s).entry i = s.entry i := by
  cases hq : e.phase.liveSeq with
  | none => rw [abandonLive_none s hq]
  | some q => rw [abandonLive_some s hq]; rfl

@[simp] theorem abandonLive_line (e : Entry) (s : State) (l : LineIx) : (abandonLive e s).line l = s.line l := by
  cases hq : e.phase.liveSeq with
  | none => rw [abandonLive_none s hq]
  | some q => rw [abandonLive_some s hq]; rfl

@[simp] theorem abandonLive_port (e : Entry) (s : State) (p : Port) : (abandonLive e s).port p = s.port p := by
  cases hq : e.phase.liveSeq with
  | none => rw [abandonLive_none s hq]
  | some q => rw [abandonLive_some s hq]; simp

@[simp] theorem abandonLive_admission (e : Entry) (s : State) : (abandonLive e s).admission = s.admission := by
  cases hq : e.phase.liveSeq with
  | none => rw [abandonLive_none s hq]
  | some q => rw [abandonLive_some s hq]; rfl

/-! ## Entries flushed one after the other -/

/-- What a flush of entries leaves of the part: they are FREE, out of every queue, and their live seqs are abandoned. -/
structure Flushed (is : List EntryIx) (s u : State) : Prop where
  queue : QueueLaw u
  entry : ∀ j, u.entry j = if j ∈ is then none else s.entry j
  admission : u.admission = s.admission.filter fun j => j ∉ is
  port : ∀ p, u.port p = { s.port p with completion := (s.port p).completion.filter fun j => j ∉ is }
  node : ∀ n, u.node n =
    { s.node n with
      bound := (s.bound n).map fun b =>
        { b with
          issueQueue := b.issueQueue.filter fun j => j ∉ is
          abandoned := withSeqs (is.filterMap (s.seqAt n)) b.abandoned } }
  line : ∀ l, u.line l = s.line l
  kept : u.kept = s.kept
  fixed : u.fixed = s.fixed

theorem Flushed.refl {s : State} (hs : QueueLaw s) : Flushed [] s s where
  queue := hs
  entry := fun _ => by simp
  admission := by simp
  port := fun p => by simp
  node := fun n => by
    have : (s.bound n).map (fun b => { b with issueQueue := b.issueQueue.filter fun j => j ∉ [], abandoned := withSeqs [] b.abandoned })
        = s.bound n := by
      cases s.bound n <;> simp [withSeqs]
    rw [List.filterMap_nil, this]; rfl
  line := fun _ => rfl
  kept := rfl
  fixed := rfl

theorem flushEntry_flushed {s : State} (hs : QueueLaw s) (i : EntryIx) : Flushed [i] s (flushEntry i s) := by
  have hmem : ∀ q : List EntryIx, removed i q = q.filter fun j => j ∉ [i] := fun q => (filter_notMem_singleton i q).symm
  cases he : s.entry i with
  | none =>
    have hfree := freeEntry_of_none he
    simp only [flushEntry, he]
    refine { queue := hs, entry := fun j => ?_, admission := ?_, port := fun p => ?_, node := fun n => ?_,
             line := fun _ => rfl, kept := rfl, fixed := rfl }
    · split
      · rename_i h; rw [List.mem_singleton] at h; rw [h, he]
      · rfl
    · rw [← hmem, ← freeEntry_admission hs, hfree]
    · rw [← hmem, ← freeEntry_port hs, hfree]
    · have hn := freeEntry_node hs i n
      rw [hfree] at hn
      simpa [State.seqAt, he, withSeqs, hmem] using hn
  | some e =>
    simp only [flushEntry, he]
    have hq : QueueLaw (abandonLive e s) := queueLaw_of_queues (abandonLive_queues e s) hs
    refine { queue := freeEntry_queueLaw hq i, entry := fun j => ?_, admission := ?_, port := fun p => ?_, node := fun n => ?_,
             line := fun l => by simp, kept := by simp, fixed := by simp }
    · rw [freeEntry_entry, abandonLive_entry]; simp [eq_comm]
    · rw [freeEntry_admission hq, abandonLive_admission, hmem]
    · rw [freeEntry_port hq, abandonLive_port, hmem]
    · rw [freeEntry_node hq, State.bound, abandonLive_node]
      simp only [Option.map_map, Function.comp_def, hmem]
      simp [State.seqAt, he, List.filterMap_cons]
      rfl

theorem Flushed.cons {i : EntryIx} {is : List EntryIx} {s t u : State} (hi : i ∉ is) (h : Flushed [i] s t) (k : Flushed is t u) :
    Flushed (i :: is) s u where
  queue := k.queue
  entry := fun j => by
    rw [k.entry, h.entry]
    by_cases hj : j ∈ is <;> by_cases hji : j = i <;> simp [hj, hji]
  admission := by rw [k.admission, h.admission, filter_notMem_singleton, filter_removed]
  port := fun p => by rw [k.port, h.port, filter_notMem_singleton, filter_removed]
  node := fun n => by
    have hseq : is.filterMap (t.seqAt n) = is.filterMap (s.seqAt n) := List.filterMap_congr fun j hj => by
      rw [State.seqAt, State.seqAt, h.entry, if_neg]
      rintro hmem
      rw [List.mem_singleton] at hmem
      exact hi (hmem ▸ hj)
    rw [k.node, State.bound, h.node, hseq]
    simp only [Option.map_map, Function.comp_def, filter_notMem_singleton, filter_removed, ← withSeqs_append, ← List.filterMap_append]
    rfl
  line := fun l => (k.line l).trans (h.line l)
  kept := k.kept.trans h.kept
  fixed := k.fixed.trans h.fixed

theorem foldl_flushEntry {is : List EntryIx} (hnd : is.Nodup) {s : State} (hs : QueueLaw s) :
    Flushed is s (is.foldl (fun s i => flushEntry i s) s) := by
  induction is generalizing s with
  | nil => exact .refl hs
  | cons i rest ih =>
    have h := flushEntry_flushed hs i
    exact h.cons (List.nodup_cons.mp hnd).1 (ih (List.nodup_cons.mp hnd).2 h.queue)

/-! ## The laws -/

theorem Flushed.bound_cases {is : List EntryIx} {s u : State} (h : Flushed is s u) {n : NodeIx} {b' : BoundNode}
    (hb' : u.bound n = some b') : ∃ b, s.bound n = some b ∧ b' =
      { b with
        issueQueue := b.issueQueue.filter fun j => j ∉ is
        abandoned := withSeqs (is.filterMap (s.seqAt n)) b.abandoned } := by
  rw [State.bound, h.node] at hb'
  obtain ⟨b, hb, rfl⟩ := Option.map_eq_some_iff.mp hb'
  exact ⟨b, hb, rfl⟩

theorem Flushed.descends {is : List EntryIx} {s u : State} (h : Flushed is s u) : Descends s u where
  entry := fun i e' he' => by
    rw [h.entry] at he'
    split at he'
    · cases he'
    · exact ⟨e', he', .refl e'⟩
  params := (State.fixed_eq h.fixed).1
  buffer := (State.fixed_eq h.fixed).2.2

/-- Nothing live is out at an OFFLINE node. -/
theorem NodeLaw.seqAt_offline {s : State} (hs : NodeLaw s) {n : NodeIx} {b : BoundNode} (hb : s.bound n = some b)
    (hh : b.health = .offline) (i : EntryIx) : s.seqAt n i = none := by
  cases hq : s.seqAt n i with
  | none => rfl
  | some q =>
    obtain ⟨e, he, hn, hl⟩ := State.seqAt_eq_some.mp hq
    subst hn
    exact absurd hh (hs.online he (Phase.isOpen_of_liveSeq (by rw [hl]; rfl)) b hb)

theorem Flushed.stepsTo {is : List EntryIx} {s u : State} (h : Flushed is s u) (hs : NodeLaw s) (n : NodeIx) :
    (s.node n).StepsTo (u.node n) := by
  rw [h.node]
  refine NodeRec.stepsTo_map fun b hb => ⟨rfl, rfl, id, id, fun ⟨h1, h2, h3, h4, h5, h6, h7, h8⟩ =>
    ⟨h1, h2, h3, h4, h5, h6, h7, fun hh => ?_⟩⟩
  obtain ⟨hq, hi, hab, hack⟩ := h8 hh
  have hnone : is.filterMap (s.seqAt n) = [] := List.filterMap_eq_nil_iff.mpr fun i _ => hs.seqAt_offline hb hh i
  exact ⟨by simp [hq], hi, by rw [hnone]; exact hab, hack⟩

theorem Flushed.seqLaw {is : List EntryIx} {s u : State} (h : Flushed is s u) (hn : NodeLaw s) (hs : SeqLaw s) : SeqLaw u := by
  refine h.descends.follows.seqLaw_of_nodes (h.stepsTo hn) hs fun n b b' hb hb' => ?_
  obtain ⟨c, hc, rfl⟩ := h.bound_cases hb'
  obtain rfl := Option.some.inj (hb.symm.trans hc)
  obtain ⟨hlive, hab, hiss, hal⟩ := nodup_usedSeqs.mp (hs.1 n b hb).1
  refine ⟨nodup_withSeqs hab _, .inl rfl, fun q hq => ?_⟩
  rcases mem_withSeqs.mp hq with hq | hq
  · exact ⟨mem_usedSeqs.mpr (.inr (.inr hq)), fun hl => hal q hq (h.descends.follows.liveSeqs_subset n hl), fun hi => (hiss q hi).2 hq⟩
  · obtain ⟨i, hi, hq⟩ := List.mem_filterMap.mp hq
    obtain ⟨e, he, hen, hl⟩ := State.seqAt_eq_some.mp hq
    have hmem : q ∈ s.liveSeqs n := mem_liveSeqs.mpr ⟨i, e, he, hen, hl⟩
    refine ⟨mem_usedSeqs.mpr (.inl hmem), fun hu => ?_, fun hi => (hiss q hi).1 hmem⟩
    obtain ⟨j, f, hf, hfn, hfl⟩ := mem_liveSeqs.mp hu
    rw [h.entry] at hf
    split at hf
    · cases hf
    · rename_i hj
      exact hj (nodup_liveSeqs.mp hlive i j e f q he hf hen hfn hl hfl ▸ hi)

theorem Flushed.core {is : List EntryIx} {s u : State} (h : Flushed is s u) (hs : Core s) : Core u :=
  h.descends.core (h.stepsTo hs.node) hs h.queue (h.seqLaw hs.node hs.seq)

theorem Flushed.lineLaw {is : List EntryIx} {s u : State} (h : Flushed is s u) (hs : LineLaw s) : LineLaw u :=
  lineLaw_congr' h.line (State.fixed_eq h.fixed).1 (fun n => by
    simp only [State.lineViewAt, State.outlineAt, State.bound, h.node, Option.map_map]
    rfl) hs

/-! ## PORT_RESET -/

/-- The part when the entries of port `p` have been flushed and its record is empty, before admission's test. -/
def portFlushed (p : Port) (s : State) : State :=
  ((s.entriesWhere fun e => e.port == p).foldl (fun s i => flushEntry i s) s).modPort p PortRec.flushed

theorem portResetOp_eq (p : Port) (s : State) : portResetOp p s = (retest s (portFlushed p s), .bare .ok) := rfl

theorem State.mem_entriesWhere_iff {s : State} {f : Entry → Bool} {i : EntryIx} :
    i ∈ s.entriesWhere f ↔ s.holds i f = true := by
  simp [State.entriesWhere, allEntries]

/-- The completion queue of a port holds its port's entries alone. -/
theorem completion_filter_eq_nil {s : State} (hs : QueueLaw s) (p : Port) :
    ((s.port p).completion.filter fun j => j ∉ s.entriesWhere fun e => e.port == p) = [] := by
  refine List.filter_eq_nil_iff.mpr fun i hi => ?_
  obtain ⟨e, he, hp, -⟩ := hs.completion_done hi
  have : i ∈ s.entriesWhere fun e => e.port == p := State.mem_entriesWhere_iff.mpr (State.holds_iff.mpr ⟨e, he, by simp [hp]⟩)
  simpa using this

theorem portFlushed_sound {s : State} (hs : Sound s) (p : Port) : Sound (retest s (portFlushed p s)) := by
  have h := foldl_flushEntry (s.nodup_entriesWhere fun e => e.port == p) hs.core.queue
  have hcompletion : ((((s.entriesWhere fun e => e.port == p).foldl (fun s i => flushEntry i s) s).port p).flushed).completion =
      (((s.entriesWhere fun e => e.port == p).foldl (fun s i => flushEntry i s) s).port p).completion := by
    rw [h.port]
    exact (completion_filter_eq_nil hs.core.queue p).symm
  have hcore := modPort_core (h.core hs.core) hcompletion
  exact ⟨retest_core hcore, retest_headWaits hs.head hcore fun i e he hw => h.descends.waitersFrom i e (by simpa [portFlushed] using he) hw,
    retest_lineLaw (modPort_lineLaw (h.lineLaw hs.line) p _)⟩

/-- Settles O30: the entries of the port are flushed one after the other, and its record is emptied. -/
theorem portResetFlushesThePort : Obligations.PortResetFlushesThePort := by
  intro f s hs hf
  have hcore := hs.core
  have hq : QueueLaw (f.received s) := queueLaw_congr (fun i => by simp [State.placeOf])
    (fun pl => by rcases pl with _ | n | p <;> simp [State.queueAt]) hcore.queue
  have h := foldl_flushEntry ((f.received s).nodup_entriesWhere fun e => e.port == f.port) hq
  have hmem : ∀ i, i ∈ ((f.received s).entriesWhere fun e => e.port == f.port) ↔ ∃ e, s.entry i = some e ∧ e.port = f.port :=
    fun i => by rw [State.mem_entriesWhere_iff, State.holds_iff]; simp
  have hout : ∀ i, (s.entry i).isSome = true →
      (decide (i ∉ (f.received s).entriesWhere fun e => e.port == f.port) = s.holds i fun e => e.port != f.port) := fun i hi => by
    obtain ⟨e, he⟩ := Option.isSome_iff_exists.mp hi
    rw [Bool.eq_iff_iff, decide_eq_true_iff, hmem, State.holds_iff]
    simp [he]
  have hqueued : ∀ {pl : Place} {q : List EntryIx}, s.queueAt pl = some q →
      (q.filter fun j => j ∉ (f.received s).entriesWhere fun e => e.port == f.port) =
        q.filter fun i => s.holds i fun e => e.port != f.port := fun {pl q} hq => List.filter_congr fun i hi => hout i (by
    obtain ⟨e, he, -⟩ := State.placeOf_eq_some_iff.mp ((hcore.queue.mem_iff hq i).mp hi)
    rw [he]; rfl)
  refine ⟨portFlushed f.port (f.received s), exec_brings rfl hf ?_, ?_⟩
  · rw [runCommand, portResetOp_eq, retest_received]; rfl
  have hpf := State.kept_eq ((State.modPort_kept _ f.port PortRec.flushed).trans h.kept)
  have hff := State.fixed_eq ((State.modPort_fixed _ f.port PortRec.flushed).trans h.fixed)
  obtain ⟨hnow, hrstn, hpending⟩ := hpf
  obtain ⟨hparams, hstamp, hbuffer⟩ := hff
  refine ⟨hnow.trans (received_now f s), hrstn.trans (received_rstnLow f s), State.lines_eq fun l => ?_,
    hparams.trans (received_params f s), hbuffer.trans (received_buffer f s), hstamp.trans (received_stamp f s),
    hpending.trans (received_pending f s), fun i => ?_, ?_, fun q hq => ?_, ?_, fun n => ?_⟩
  · rw [portFlushed, State.modPort_line, h.line, received_line]
  · rw [portFlushed, State.modPort_entry, h.entry, received_entry]
    cases he : s.entry i with
    | none => split <;> rfl
    | some e =>
      have : i ∈ ((f.received s).entriesWhere fun e => e.port == f.port) ↔ e.port = f.port := by rw [hmem]; simp [he]
      simp only [this]
      by_cases hp : e.port = f.port <;> simp [hp, Option.filter]
  · rw [portFlushed, State.modPort_admission, h.admission, received_admission]
    exact hqueued (pl := .admission) rfl
  · rw [portFlushed, State.modPort_port, if_neg hq.symm, h.port, received_port_other f s hq, hqueued (pl := .completion q) rfl]
    have hall : ((s.port q).completion.filter fun i => s.holds i fun e => e.port != f.port) = (s.port q).completion :=
      List.filter_eq_self.mpr fun i hi => by
        obtain ⟨e, he, hp, -⟩ := hcore.queue.completion_done hi
        exact State.holds_iff.mpr ⟨e, he, by simp [hp, hq]⟩
    rw [hall]
  · rw [portFlushed, State.modPort_port, if_pos rfl, h.port]
    rfl
  · rw [portFlushed, State.modPort_node, h.node, received_node, received_bound]
    refine ⟨fun hb => by rw [hb, Option.map_none, ← hb]; rfl, fun b hb => ?_⟩
    refine ⟨withSeqs (((f.received s).entriesWhere fun e => e.port == f.port).filterMap ((f.received s).seqAt n)) b.abandoned,
      ?_, fun q => ?_⟩
    · rw [hb, Option.map_some, hqueued (pl := .issue n) (by rw [State.queueAt, hb]; rfl)]
    · rw [mem_withSeqs, List.mem_filterMap]
      refine or_congr_right (exists_congr fun i => ?_)
      rw [hmem, State.seqAt_eq_some]
      simp only [received_entry, Option.mem_def]
      constructor
      · rintro ⟨⟨e, he, hp⟩, g, hg, hn, hl⟩
        obtain rfl := Option.some.inj (he.symm.trans hg)
        exact ⟨e, he, hp, hn, hl⟩
      · rintro ⟨e, he, hp, hn, hl⟩
        exact ⟨⟨e, he, hp⟩, e, he, hn, hl⟩

end Sys2Proof.Machine
end

section
/-! PROOFS. The node commands and the laws: the lines when one node changes, and the binding and the detachment of a node. -/

namespace Sys2Proof.Machine

/-! ## The lines when one node changes -/

theorem LineState.runs_abandonIf {f g : Exchange → Bool} {r : LineState} (h : r.runs f = true)
    (hg : ∀ x, f x = true → g x = false) : (r.abandonIf g).runs f = true := by
  cases r with
  | exchanging pend x =>
    simp only [LineState.runs, Bool.and_eq_true] at h
    simp [LineState.abandonIf, hg x h.1, LineState.runs, h.1, h.2]
  | _ => exact h

theorem LineState.abandonIf_false (r : LineState) : r.abandonIf (fun _ => false) = r := by
  cases r <;> rfl

/-- The law of the lines when the record of one node changes and some of its exchanges are abandoned. -/
theorem lineLaw_of_node {s u : State} {n : NodeIx} {g : Exchange → Bool} (hs : LineLaw s)
    (hg : ∀ x, g x = true → x.node = n) (hlines : ∀ k, u.line k = { s.line k with state := (s.line k).state.abandonIf g })
    (hp : u.params = s.params) (hothers : ∀ m, m ≠ n → u.lineViewAt m = s.lineViewAt m)
    (hdisabled : ∀ b, u.bound n = some b → s.lineEnabled b.line = false → (s.line b.line).state = .disabled → b.health = .offline)
    (hissuing : ∀ b q, u.bound n = some b → b.issuingSeq = some q →
      (u.line b.line).state.runs (fun x => x.node == n && x.kind == .request q) = true)
    (hprobing : ∀ b, u.bound n = some b → b.health = .probing none →
      (u.line b.line).state.runs (fun x => x.node == n && x.kind == .reset) = true)
    (haddr : ∀ x k, x.node = n → g x = false → x.addresses s k → x.addresses u k) : LineLaw u := by
  obtain ⟨hstate, hiss, hprob⟩ := hs
  have hen : ∀ k, u.lineEnabled k = s.lineEnabled k := fun k => by rw [State.lineEnabled, hp]; rfl
  have hkeep : ∀ {m : NodeIx} (hm : m ≠ n) {b : BoundNode} {f : Exchange → Bool},
      (s.line b.line).state.runs (fun x => x.node == m && f x) = true →
        (u.line b.line).state.runs (fun x => x.node == m && f x) = true := fun {m} hm {b f} hr => by
    rw [hlines]
    refine LineState.runs_abandonIf hr fun x hx => ?_
    simp only [Bool.and_eq_true, beq_iff_eq] at hx
    cases hgx : g x with
    | false => rfl
    | true => exact absurd (hx.1.symm.trans (hg x hgx)) hm
  refine ⟨fun k => ?_, fun m b' hb' q hq => ?_, fun m b' hb' hh => ?_⟩
  · rw [hlines]
    refine ⟨(hstate k).1, ?_⟩
    have hk := (hstate k).2
    cases hr : (s.line k).state with
    | disabled =>
      rw [hr] at hk
      refine ⟨(hen k).trans hk.1, fun m b' hb' hl => ?_⟩
      by_cases hm : m = n
      · subst hm; subst hl; exact hdisabled b' hb' hk.1 hr
      · obtain ⟨b, hb, hline, -, hh, -⟩ := lineView_some (hothers m hm).symm hb'
        exact hh.symm.trans (hk.2 m b hb (hline.trans hl))
    | idle => rw [hr] at hk; exact (hen k).trans hk
    | exchanging pend x =>
      rw [hr] at hk
      cases hgx : g x with
      | true => simpa [LineState.abandonIf, hgx, LineState.lawful] using Exchange.lawful_abandoned (hen k) hk
      | false =>
        obtain ⟨h1, h2, h3, h4, h5, h6, h7, h8⟩ := hk
        simp only [LineState.abandonIf, hgx, Bool.false_eq_true, if_false]
        refine ⟨h1, h2, h3, h4, h5, by rw [hen]; exact h6, h7, fun ha => ?_⟩
        by_cases hx : x.node = n
        · exact haddr x k hx hgx (h8 ha)
        · exact Exchange.addresses_congr (hothers _ hx) (h8 ha)
  · by_cases hm : m = n
    · subst hm; exact hissuing b' q hb' hq
    · obtain ⟨b, hb, hline, -, -, hi, -⟩ := lineView_some (hothers m hm).symm hb'
      have hr := hiss m b hb q (hi.trans hq)
      rw [← hline]; exact hkeep hm hr
  · by_cases hm : m = n
    · subst hm; exact hprobing b' hb' hh
    · obtain ⟨b, hb, hline, -, hhealth, -⟩ := lineView_some (hothers m hm).symm hb'
      have hr := hprob m b hb (hhealth.trans hh)
      rw [← hline]; exact hkeep hm hr

/-! ## The binding of a node -/

@[simp] theorem State.setNode_setNode (s : State) (n : NodeIx) (r r' : NodeRec) : (s.setNode n r).setNode n r' = s.setNode n r' := by
  simp [State.setNode]

theorem positionHeld_eq_false {s : State} {n : NodeIx} {l : LineIx} {d : DropIx} (h : positionHeld s n l d = false) {m : NodeIx}
    {b : BoundNode} (hm : m ≠ n) (hb : s.bound m = some b) : ¬(b.line = l ∧ b.drop = d) := by
  intro hld
  have : positionHeld s n l d = true := by
    simp only [positionHeld, List.any_eq_true, allNodes]
    exact ⟨m, List.mem_finRange m, by simp [hm, hb, hld]⟩
  rw [h] at this; cases this

/-- The record that an attach sets up. -/
def attachedRec (s : State) (n : NodeIx) (l : LineIx) (d : DropIx) (window : Nat) (mode : Mode) : NodeRec where
  params := { (s.node n).params with window := window, mode := mode }
  slow := (s.node n).params.slowCeiling < (s.node n).params.eSeed
  counters := .zero
  bound := some (freshNode { (s.node n).params with window := window, mode := mode } l d (startHealth s l))

/-- The binding of a node: its record, and the events that follow (R49, R95, R96). -/
theorem attach_eq (n : NodeIx) (l : LineIx) (d : DropIx) (window : Nat) (mode : Mode) (s : State) :
    attach n l d window mode s =
      raiseBoth .nodeChange
        (if (s.node n).params.slowCeiling < (s.node n).params.eSeed then
          raiseBoth .nodeSlow (s.setNode n (attachedRec s n l d window mode))
        else s.setNode n (attachedRec s n l d window mode)) := by
  let params := { (s.node n).params with window := window, mode := mode }
  have hbound : (s.setNode n ⟨params, false, .zero, some (freshNode params l d (startHealth s l))⟩).bound n =
      some (freshNode params l d (startHealth s l)) := by rw [State.bound, State.setNode_node_same]
  have hw := writeEstimate_eq (e := (s.node n).params.eSeed) (spread := (s.node n).params.sSeed) hbound
  rw [State.setNode_node_same] at hw
  dsimp only at hw
  rw [State.setNode_setNode] at hw
  simp only [Bool.not_false, Bool.and_true, decide_eq_true_eq] at hw
  exact congrArg (raiseBoth .nodeChange) hw

theorem raiseBoth_sound {s : State} (hs : Sound s) (ev : Event) : Sound (raiseBoth ev s) :=
  (raiseBoth_keeps hs.core hs.line ev).sound hs (by simp) (by simp) (State.fixed_eq (raiseBoth_fixed ev s)).1

/-- No entry is open at a node that is ABSENT. -/
theorem NodeLaw.not_open {s : State} (hs : NodeLaw s) {n : NodeIx} (hb : s.bound n = none) {i : EntryIx} {e : Entry}
    (he : s.entry i = some e) (hn : e.node = n) : e.phase.isOpen = false := by
  cases ho : e.phase.isOpen with
  | false => rfl
  | true =>
    obtain ⟨b, hb', -⟩ := hs.2.2.1 i e he ho
    rw [hn, hb] at hb'; cases hb'

section
variable {s : State} {n : NodeIx} {r : NodeRec} {c : BoundNode} (hs : Core s) (hb : s.bound n = none)
  (hc : r.bound = some c) (hfresh : c.isFresh) (hl : c.lawful) (hcount : r.counters.lawful) (hp : r.params.lawful)
  (hpos : ∀ m b, m ≠ n → s.bound m = some b → ¬(b.line = c.line ∧ b.drop = c.drop))
include hs hb hc hfresh

omit hs hb hfresh in
theorem setNode_bound_cases {m : NodeIx} {b : BoundNode} (hm : (s.setNode n r).bound m = some b) :
    (m = n ∧ b = c) ∨ (m ≠ n ∧ s.bound m = some b) := by
  rw [State.bound, State.setNode_node] at hm
  split at hm
  · rename_i h; exact .inl ⟨h.symm, Option.some.inj (hm.symm.trans hc)⟩
  · rename_i h; exact .inr ⟨fun hmn => h hmn.symm, hm⟩

theorem setNode_queueLaw : QueueLaw (s.setNode n r) := by
  have hq := queueLaw_iff.mp hs.queue
  rw [queueLaw_iff]
  rintro (_ | m | p) q hmem
  · exact hq .admission q hmem
  · obtain ⟨b, hbm, rfl⟩ := Option.map_eq_some_iff.mp hmem
    rcases setNode_bound_cases hc hbm with ⟨rfl, rfl⟩ | ⟨-, hbm⟩
    · rw [hfresh.1]
      refine ⟨List.nodup_nil, fun i => ⟨fun h => absurd h List.not_mem_nil, fun h => ?_⟩⟩
      obtain ⟨e, he, hpl⟩ := State.placeOf_eq_some_iff.mp h
      obtain ⟨hn, hr⟩ := Entry.place_eq_issue.mp hpl
      have := hs.node.not_open hb he hn
      rw [hr] at this; cases this
    · exact hq (.issue m) _ (by rw [State.queueAt, hbm]; rfl)
  · exact hq (.completion p) q (by simpa [State.queueAt] using hmem)

theorem setNode_seqLaw : SeqLaw (s.setNode n r) := by
  obtain ⟨hused, hissuing, hone⟩ := hs.seq
  refine ⟨fun m b hm => ?_, fun i e he hi => ?_, hone⟩
  · rcases setNode_bound_cases hc hm with ⟨rfl, rfl⟩ | ⟨-, hm⟩
    · have hlive : (s.setNode m r).liveSeqs m = [] := List.eq_nil_iff_forall_not_mem.mpr fun q hq => by
        obtain ⟨i, e, he, hn, hq⟩ := mem_liveSeqs.mp hq
        have := hs.node.not_open hb he hn
        rw [Phase.isOpen_of_liveSeq (by rw [hq]; rfl)] at this; cases this
      rw [State.usedSeqs, hlive, hfresh.2.1, hfresh.2.2]
      exact ⟨List.nodup_nil, Nat.zero_le _⟩
    · exact hused m b hm
  · obtain ⟨b, hbe, hbi⟩ := hissuing i e he hi
    refine ⟨b, ?_, hbi⟩
    rw [State.bound, State.setNode_node, if_neg]
    · exact hbe
    · rintro rfl
      rw [hb] at hbe; cases hbe

include hl hcount hp hpos

theorem setNode_core : Core (s.setNode n r) where
  table := hs.table
  queue := setNode_queueLaw hs hb hc hfresh
  total := hs.total
  buffer := hs.buffer
  node := by
    obtain ⟨hrec, hposition, hserved, hlive⟩ := hs.node
    have hother : ∀ i e, s.entry i = some e → e.phase.isOpen = true → (s.setNode n r).bound e.node = s.bound e.node :=
      fun i e he ho => by
        rw [State.bound, State.setNode_node, if_neg]
        · rfl
        · rintro rfl
          obtain ⟨b, hbe, -⟩ := hserved i e he ho
          rw [hb] at hbe; cases hbe
    refine ⟨fun m => ⟨?_, fun b hm => ?_⟩, fun m k b hm d hk hline hdrop => ?_, fun i e he ho => ?_, fun i e he hq => ?_⟩
    · rw [State.setNode_node]
      split
      · exact hcount
      · exact (hrec m).1
    · rcases setNode_bound_cases hc hm with ⟨rfl, rfl⟩ | ⟨-, hm⟩
      · exact hl
      · exact (hrec m).2 b hm
    · rcases setNode_bound_cases hc hm with ⟨hmn, rfl⟩ | ⟨hmn, hm⟩ <;> rcases setNode_bound_cases hc hk with ⟨hkn, rfl⟩ | ⟨hkn, hk⟩
      · rw [hmn, hkn]
      · exact absurd ⟨hline.symm, hdrop.symm⟩ (hpos k d hkn hk)
      · exact absurd ⟨hline, hdrop⟩ (hpos m b hmn hm)
      · exact hposition m k b hm d hk hline hdrop
    · rw [hother i e he ho]; exact hserved i e he ho
    · rw [hother i e he (Phase.isOpen_of_liveSeq hq)]; exact hlive i e he hq
  seq := setNode_seqLaw hs hb hc hfresh
  param := ⟨hs.param.1, fun m => by
    rw [State.setNode_node]
    split
    · exact hp
    · exact hs.param.2 m⟩

end

theorem attach_sound {s : State} (hs : Sound s) {n : NodeIx} (hb : s.bound n = none) {l : LineIx} {d : DropIx}
    (hpos : positionHeld s n l d = false) {window : Nat} (hw : 1 ≤ window ∧ window ≤ 8) (mode : Mode) :
    Sound (attach n l d window mode s) := by
  have hparams := hs.core.param.2 n
  obtain ⟨-, -, hrest⟩ := hparams
  have hp : ({ (s.node n).params with window := window, mode := mode } : NodeParams).lawful := ⟨hw.1, hw.2, hrest⟩
  set c := freshNode { (s.node n).params with window := window, mode := mode } l d (startHealth s l) with hcdef
  have hc : (attachedRec s n l d window mode).bound = some c := rfl
  have hl : c.lawful := by
    obtain ⟨-, -, hE, hS, -⟩ := hrest
    have hserved : c.health.inService = true → c.advert.isSome = true := fun h => by
      rw [show c.health = startHealth s l from rfl, (startHealth_rest s l).1] at h; cases h
    exact ⟨hE, hS, Nat.zero_le _, Nat.zero_le _, (by simp [hcdef, freshNode]), hserved, (by simp [hcdef, freshNode]),
      fun _ => ⟨rfl, rfl, rfl, rfl⟩⟩
  have hcore : Core (s.setNode n (attachedRec s n l d window mode)) :=
    setNode_core hs.core hb hc ⟨rfl, rfl, rfl⟩ hl ⟨Nat.zero_le _, Nat.zero_le _, Nat.zero_le _, Nat.zero_le _⟩ hp
      fun m b hm hbm => positionHeld_eq_false hpos hm hbm
  have hnew : ∀ b, (s.setNode n (attachedRec s n l d window mode)).bound n = some b → b = c := fun b h =>
    ((setNode_bound_cases hc h).resolve_right fun h => h.1 rfl).2
  have hline : LineLaw (s.setNode n (attachedRec s n l d window mode)) :=
    lineLaw_of_node (n := n) (g := fun _ => false) hs.line (by simp) (fun k => by rw [LineState.abandonIf_false]; rfl) rfl
      (fun m hm => by
        rw [State.lineViewAt_eq, State.lineViewAt_eq, State.bound, State.setNode_node, if_neg (Ne.symm hm)]; rfl)
      (fun b h hen _ => by
        obtain rfl := hnew b h
        have hen : s.lineEnabled l = false := hen
        change startHealth s l = .offline
        rw [startHealth, hen]; rfl)
      (fun b q h hq => by obtain rfl := hnew b h; cases hq)
      (fun b h hh => by obtain rfl := hnew b h; exact ((startHealth_rest s l).2 hh).elim)
      fun x k hx _ haddr => by
        obtain ⟨b, hbx, -⟩ := haddr
        rw [hx, hb] at hbx; cases hbx
  have hv : Sound (s.setNode n (attachedRec s n l d window mode)) := ⟨hcore, hs.head, hline⟩
  rw [attach_eq]
  refine raiseBoth_sound ?_ _
  split
  · exact raiseBoth_sound hv _
  · exact hv

theorem windowOf_eq_some {b : Byte} {w : Nat} (h : windowOf b = some w) : w = b.toNat ∧ 1 ≤ w ∧ w ≤ 8 := by
  unfold windowOf at h
  split at h
  · obtain rfl := Option.some.inj h
    exact ⟨rfl, ‹_›⟩
  · cases h

theorem nodeAttachOp_sound {s : State} (hs : Sound s) (p : Port) (node line drop window mode : Byte) :
    Sound (nodeAttachOp p node line drop window mode s).1 := by
  unfold nodeAttachOp
  split
  · exact hs
  · split
    · rename_i n l d w m _ _ _ hw _
      split
      · exact hs
      · rename_i hb
        split
        · exact hs
        · rename_i hpos
          exact attach_sound hs (by simpa using hb) (by simpa using hpos) (windowOf_eq_some hw).2 m
    · exact hs

end Sys2Proof.Machine
end

section
/-! PROOFS. The detachment and the reprobe of a node, and the laws. -/

namespace Sys2Proof.Machine

/-! ## Detachment -/

/-- The part when node `n` has been detached, before admission's test. -/
def detached (n : NodeIx) (b : BoundNode) (s : State) : State :=
  raiseBoth .nodeChange
    (abandonExchanges (fun x => x.node == n) ((finishAll .detached (openInOrder s n b) s).modNode n NodeRec.detached))

theorem detach_eq (n : NodeIx) (b : BoundNode) (s : State) : detach n b s = retest s (detached n b s) := rfl

section
variable {s : State} {n : NodeIx} {b : BoundNode} (hs : QueueLaw s) (hb : s.bound n = some b)
include hs hb

theorem detached_node (m : NodeIx) :
    (detached n b s).node m = if m = n then { s.node n with slow := false, counters := .zero, bound := none } else s.node m := by
  rw [detached, raiseBoth_node, abandonExchanges_node, State.modNode_node, leaveService_node hs hb rfl]
  by_cases hm : m = n
  · subst hm; rw [if_pos rfl, if_pos rfl, if_pos rfl]; rfl
  · rw [if_neg (Ne.symm hm), if_neg hm, leaveService_node hs hb rfl, if_neg hm]

omit hs hb in
theorem detached_entry (i : EntryIx) :
    (detached n b s).entry i = (finishAll .detached (openInOrder s n b) s).entry i := by
  rw [detached, raiseBoth_entry, abandonExchanges_entry, State.modNode_entry]

theorem detached_queueLaw : QueueLaw (detached n b s) := by
  have hq := queueLaw_iff.mp (finishAll_queueLaw hs .detached (openInOrder s n b))
  have hplace : ∀ i, (detached n b s).placeOf i = (finishAll .detached (openInOrder s n b) s).placeOf i := fun i => by
    rw [State.placeOf, detached_entry]; rfl
  rw [queueLaw_iff]
  intro pl q hmem
  simp only [hplace]
  refine hq pl q ?_
  rcases pl with _ | m | p
  · simpa [detached, State.queueAt] using hmem
  · obtain ⟨c, hc, rfl⟩ := Option.map_eq_some_iff.mp hmem
    rw [State.bound, detached_node hs hb] at hc
    split at hc
    · cases hc
    · rename_i hm
      rw [State.queueAt, State.bound, leaveService_node hs hb rfl, if_neg hm, hc]; rfl
  · simp only [State.queueAt, detached, raiseBoth_port, abandonExchanges_port, State.modNode_port] at hmem ⊢
    exact hmem

end

theorem detached_keeps {s : State} (hs : Sound s) {n : NodeIx} {b : BoundNode} (hb : s.bound n = some b) :
    Core (detached n b s) ∧ LineLaw (detached n b s) ∧ WaitersFrom s (detached n b s) := by
  have hq := hs.core.queue
  have hfixed : (detached n b s).fixed = s.fixed := by simp [detached]
  have hparams := (State.fixed_eq hfixed).1
  have hunbound : (detached n b s).bound n = none := by rw [State.bound, detached_node hq hb, if_pos rfl]
  refine ⟨?_, ?_, fun i e he hw => ?_⟩
  · refine core_of_left hq hb (status := .detached) hs.core detached_entry (detached_queueLaw hq hb) (fun m hm => ?_) ?_ ?_
      (fun b' hb' => ?_) ⟨hparams, (State.fixed_eq hfixed).2.2⟩
    · rw [detached_node hq hb, if_neg hm]
    · rw [detached_node hq hb, if_pos rfl]
    · rw [detached_node hq hb, if_pos rfl]
      exact ⟨Nat.zero_le _, Nat.zero_le _, Nat.zero_le _, Nat.zero_le _⟩
    · rw [hunbound] at hb'; cases hb'
  · refine lineLaw_of_node (n := n) (g := fun x => x.node == n) hs.line (fun x hx => by simpa using hx)
      (fun k => by simp [detached, abandonExchanges_line]) hparams (fun m hm => ?_) (fun c hc => ?_) (fun c q hc => ?_)
      (fun c hc => ?_) fun x k hx hg => ?_
    · rw [State.lineViewAt_eq, State.lineViewAt_eq, State.bound, detached_node hq hb, if_neg hm]; rfl
    · rw [hunbound] at hc; cases hc
    · rw [hunbound] at hc; cases hc
    · rw [hunbound] at hc; cases hc
    · simp [hx] at hg
  · rw [detached_entry] at he
    obtain ⟨f, hf, hd, -⟩ := leaveService_entry_cases hq hb .detached he
    rw [hf, hd.waiting hw]

theorem nodeDetachOp_sound {s : State} (hs : Sound s) (p : Port) (node : Byte) : Sound (nodeDetachOp p node s).1 := by
  unfold nodeDetachOp
  split
  · exact hs
  · split
    · exact hs
    · split
      · exact hs
      · rename_i n _ b hb
        obtain ⟨hcore, hline, hwait⟩ := detached_keeps hs hb
        exact ⟨retest_core hcore, retest_headWaits hs.head hcore hwait, retest_lineLaw hline⟩

/-! ## Reprobe -/

/-- The live entries of a node withdrawn: READs return to READY uncharged, WRITEs end LOST (R57). -/
def withdrawn (n : NodeIx) (s : State) : State :=
  finishAll .lost ((s.byStamp (s.liveEntries n)).filter fun i => s.holds i fun e => e.kind == .write)
    (returnToReady false n ((s.byStamp (s.liveEntries n)).filter fun i => s.holds i fun e => e.kind == .read) s)

/-- A node sent to PROBING, without the event (R57). -/
def reprobed (n : NodeIx) (s : State) : State :=
  abandonExchanges (fun x => x.node == n && x.kind == .poll) ((withdrawn n s).modBound n (BoundNode.reprobed s.now))

theorem reprobe_eq (n : NodeIx) (b : BoundNode) (s : State) :
    reprobe n b s = if b.health.same (.probing none) then reprobed n s else raiseBoth .nodeChange (reprobed n s) := rfl

theorem mem_live_kind {s : State} {n : NodeIx} {k : Kind} {i : EntryIx} :
    i ∈ ((s.byStamp (s.liveEntries n)).filter fun i => s.holds i fun e => e.kind == k) ↔
      ∃ e, s.entry i = some e ∧ e.node = n ∧ e.phase.liveSeq.isSome = true ∧ e.kind = k := by
  rw [List.mem_filter, mem_byStamp, State.mem_liveEntries, State.holds_iff]
  constructor
  · rintro ⟨⟨e, he, hn, hl⟩, f, hf, hk⟩
    obtain rfl := Option.some.inj (he.symm.trans hf)
    exact ⟨e, he, hn, hl, by simpa using hk⟩
  · rintro ⟨e, he, hn, hl, hk⟩
    exact ⟨⟨e, he, hn, hl⟩, e, he, by simp [hk]⟩

theorem nodup_live_kind (s : State) (n : NodeIx) (k : Kind) :
    ((s.byStamp (s.liveEntries n)).filter fun i => s.holds i fun e => e.kind == k).Nodup :=
  (((byStamp_perm s _).nodup_iff).mpr (s.nodup_entriesWhere _)).filter _

/-- The record that a withdrawn entry had, and what is left of it. -/
theorem withdrawn_entry (n : NodeIx) (s : State) (i : EntryIx) {e' : Entry} (he' : (withdrawn n s).entry i = some e') :
    ∃ e, s.entry i = some e ∧ ((e.node = n ∧ e.phase.liveSeq.isSome = true ∧ e'.phase.liveSeq = none ∧
      ((e.kind = .read ∧ e'.committed = e.committed) ∨ (e.kind = .write ∧ e'.committed = 0))) ∨
        (¬(e.node = n ∧ e.phase.liveSeq.isSome = true) ∧ e' = e)) := by
  rw [withdrawn, finishAll_entry, returnToReady_entry false n (nodup_live_kind s n .read)] at he'
  by_cases hr : i ∈ (s.byStamp (s.liveEntries n)).filter fun i => s.holds i fun e => e.kind == .read
  · obtain ⟨e, he, hn, hl, hk⟩ := mem_live_kind.mp hr
    have hw : i ∉ (s.byStamp (s.liveEntries n)).filter fun i => s.holds i fun e => e.kind == .write := fun hw => by
      obtain ⟨f, hf, -, -, hkf⟩ := mem_live_kind.mp hw
      obtain rfl := Option.some.inj (he.symm.trans hf)
      rw [hk] at hkf; cases hkf
    rw [if_neg hw, if_pos hr, he] at he'
    obtain rfl := Option.some.inj he'
    exact ⟨e, he, .inl ⟨hn, hl, rfl, .inl ⟨hk, rfl⟩⟩⟩
  · rw [if_neg hr] at he'
    by_cases hw : i ∈ (s.byStamp (s.liveEntries n)).filter fun i => s.holds i fun e => e.kind == .write
    · obtain ⟨e, he, hn, hl, hk⟩ := mem_live_kind.mp hw
      rw [if_pos hw, he] at he'
      obtain rfl := Option.some.inj he'
      refine ⟨e, he, .inl ⟨hn, hl, Phase.liveSeq_of_isOpen (Entry.ended_isOpen ..), .inr ⟨hk, ?_⟩⟩⟩
      rw [Entry.ended, if_pos (Phase.isOpen_of_liveSeq hl)]
      rfl
    · rw [if_neg hw] at he'
      refine ⟨e', he', .inr ⟨fun ⟨hn, hl⟩ => ?_, rfl⟩⟩
      cases hk : e'.kind with
      | read => exact hr (mem_live_kind.mpr ⟨e', he', hn, hl, hk⟩)
      | write => exact hw (mem_live_kind.mpr ⟨e', he', hn, hl, hk⟩)

theorem withdrawn_entry_none {n : NodeIx} {s : State} {i : EntryIx} (h : (withdrawn n s).entry i = none) : s.entry i = none := by
  rw [withdrawn, finishAll_entry, returnToReady_entry false n (nodup_live_kind s n .read)] at h
  split at h <;> split at h <;> simpa using h

/-- A live WRITE holds no commitment (R25). -/
theorem Entry.lawful.write_committed {e : Entry} (h : e.lawful) (hl : e.phase.liveSeq.isSome = true) (hk : e.kind = .write) :
    e.committed = 0 := by
  obtain ⟨-, -, -, -, hp⟩ := h
  cases hph : e.phase <;> simp_all [Entry.phaseLaw, Entry.need]

theorem returnToReady_nil (charged : Bool) (n : NodeIx) (s : State) : returnToReady charged n [] s = s := by
  refine State.ext_read (by simp) (by simp) (fun i => ?_) (by simp) (fun m => ?_) (by simp) (by simp)
  · rw [returnToReady_entry charged n List.nodup_nil, if_neg List.not_mem_nil]
  · rw [returnToReady_node]
    split
    · rename_i h; subst h
      have hid : (s.bound n).map (fun b => { b with issueQueue := s.byStamp [] ++ b.issueQueue }) = s.bound n := by
        cases s.bound n <;> rfl
      rw [hid]; rfl
    · rfl

section
variable {s : State} (hs : Core s) {n : NodeIx} {b : BoundNode} (hb : s.bound n = some b)
include hs

theorem withdrawn_handles : Handles n s (withdrawn n s) := by
  have hret : Handles n s (returnToReady false n ((s.byStamp (s.liveEntries n)).filter fun i => s.holds i fun e => e.kind == .read) s) := by
    by_cases hoff : ∃ b, s.bound n = some b ∧ b.health = .offline
    · obtain ⟨b, hb, hh⟩ := hoff
      have hnil : ((s.byStamp (s.liveEntries n)).filter fun i => s.holds i fun e => e.kind == .read) = [] :=
        List.eq_nil_iff_forall_not_mem.mpr fun i hi => by
          obtain ⟨e, he, rfl, hl, -⟩ := mem_live_kind.mp hi
          exact hs.node.online he (Phase.isOpen_of_liveSeq hl) b hb hh
      rw [hnil, returnToReady_nil]
      exact .refl hs
    · exact Returns.handles ⟨nodup_live_kind s n .read, fun i hi => by
        obtain ⟨e, he, hn, hl, -⟩ := mem_live_kind.mp hi
        exact ⟨e, he, hn, Phase.atNode_of_live hl, by simp⟩, fun b hb hh => hoff ⟨b, hb, hh⟩⟩ hs
  exact hret.trans (finishAll_handles hret.core n .lost _)

omit hs in
theorem withdrawn_outlineAt (m : NodeIx) : (withdrawn n s).outlineAt m = s.outlineAt m := by simp [withdrawn]

omit hs in
theorem withdrawn_not_live {i : EntryIx} {e : Entry} (he : (withdrawn n s).entry i = some e) (hn : e.node = n) :
    e.phase.liveSeq = none := by
  obtain ⟨f, -, ⟨-, -, hl, -⟩ | ⟨hnot, rfl⟩⟩ := withdrawn_entry n s i he
  · exact hl
  · cases hq : e.phase.liveSeq with
    | none => rfl
    | some q => exact absurd ⟨hn, by rw [hq]; rfl⟩ hnot

omit hs in
theorem BoundNode.reprobed_lawful {b : BoundNode} (h : b.lawful) (now : Time) : (b.reprobed now).lawful := by
  obtain ⟨h1, h2, h3, h4, h5, -, -, -⟩ := h
  exact ⟨h1, h2, h3, h4, h5, by simp [BoundNode.reprobed, Health.inService], by simp [BoundNode.reprobed],
    by simp [BoundNode.reprobed]⟩

/-- A node without live entries can go to PROBING. -/
theorem modBound_reprobed_core (now : Time)
    (hlive : ∀ i e, s.entry i = some e → e.node = n → e.phase.liveSeq = none) : Core (s.modBound n (BoundNode.reprobed now)) := by
  have hd : Descends s (s.modBound n (BoundNode.reprobed now)) := ⟨fun _ e he => ⟨e, he, .refl e⟩, rfl, rfl⟩
  have hbound : ∀ m b', (s.modBound n (BoundNode.reprobed now)).bound m = some b' →
      ∃ b, s.bound m = some b ∧ (b' = b ∨ b' = b.reprobed now) := fun m b' hb' => by
    rw [State.modBound_bound] at hb'
    split at hb'
    · rename_i h; subst h
      obtain ⟨b, hb, rfl⟩ := Option.map_eq_some_iff.mp hb'
      exact ⟨b, hb, .inr rfl⟩
    · exact ⟨b', hb', .inl rfl⟩
  have hback : ∀ m b, s.bound m = some b → ∃ b', (s.modBound n (BoundNode.reprobed now)).bound m = some b' ∧
      (b.health ≠ .offline → b'.health ≠ .offline) ∧ (m ≠ n → b' = b) := fun m b hb => by
    rw [State.modBound_bound]
    by_cases hm : n = m
    · subst hm; rw [if_pos rfl, hb]; exact ⟨_, rfl, by simp [BoundNode.reprobed], fun h => absurd rfl h⟩
    · rw [if_neg hm]; exact ⟨b, hb, id, fun _ => rfl⟩
  have hkept : ∀ b b' : BoundNode, b' = b ∨ b' = b.reprobed now →
      b'.line = b.line ∧ b'.drop = b.drop ∧ b'.issuingSeq = b.issuingSeq ∧ b'.abandoned = b.abandoned := by
    rintro b b' (rfl | rfl) <;> exact ⟨rfl, rfl, rfl, rfl⟩
  obtain ⟨hrec, hpos, hserved, hserving⟩ := hs.node
  refine ⟨hs.table, queueLaw_of_queues (State.modBound_queues fun _ _ => rfl) hs.queue, hs.total, hs.buffer,
    ⟨fun m => ⟨?_, fun b' hb' => ?_⟩, fun m k b' hb' c' hc' hl hdr => ?_, fun i e he ho => ?_, fun i e he hq => ?_⟩, ?_,
    hs.param.1, fun m => ?_⟩
  · rw [State.modBound_node]; split
    · exact (hrec n).1
    · exact (hrec m).1
  · obtain ⟨b, hb, rfl | rfl⟩ := hbound m b' hb'
    · exact (hrec m).2 b' hb
    · exact BoundNode.reprobed_lawful ((hrec m).2 b hb) now
  · obtain ⟨b, hb, hbb⟩ := hbound m b' hb'
    obtain ⟨c, hc, hcc⟩ := hbound k c' hc'
    obtain ⟨hbl, hbd, -⟩ := hkept b b' hbb
    obtain ⟨hcl, hcd, -⟩ := hkept c c' hcc
    exact hpos m k b hb c hc (by rw [← hbl, ← hcl, hl]) (by rw [← hbd, ← hcd, hdr])
  · obtain ⟨b, hb, hh⟩ := hserved i e he ho
    obtain ⟨b', hb', hh', -⟩ := hback _ b hb
    exact ⟨b', hb', hh' hh⟩
  · obtain ⟨b, hb, hh⟩ := hserving i e he hq
    obtain ⟨b', hb', -, heq⟩ := hback _ b hb
    obtain rfl := heq fun hn => by rw [hlive i e he hn] at hq; cases hq
    exact ⟨b', hb', hh⟩
  · refine hd.follows.seqLaw hs.seq (fun m b' hb' => ?_) fun i e he hq => ?_
    · obtain ⟨b, hb, hbb⟩ := hbound m b' hb'
      obtain ⟨-, -, hi, ha⟩ := hkept b b' hbb
      exact ⟨b, hb, seqsFrom_of_sublist hd.follows hs.seq hb hi (ha ▸ .refl _)⟩
    · obtain ⟨b, hb, -⟩ := hs.seq.2.1 i e he hq
      obtain ⟨b', hb', -⟩ := hback _ b hb
      rw [hb']; rfl
  · rw [State.modBound_node]; split
    · exact hs.param.2 n
    · exact hs.param.2 m

/-- Its live entries withdrawn, a node can go to PROBING (R57). -/
theorem reprobed_core : Core (reprobed n s) :=
  (moves_abandonExchanges _ _).core_of_rest (modBound_reprobed_core (withdrawn_handles hs).core s.now fun _ _ => withdrawn_not_live)
    rfl fun _ => rfl

theorem withdrawn_committedTotal : (withdrawn n s).committedTotal = s.committedTotal := by
  refine committedTotal_of_committedAt fun i => ?_
  cases hw : (withdrawn n s).entry i with
  | none => simp [State.committedAt, hw, withdrawn_entry_none hw]
  | some e' =>
    obtain ⟨e, he, ⟨-, hl, -, ⟨-, hc⟩ | ⟨hk, hc⟩⟩ | ⟨-, rfl⟩⟩ := withdrawn_entry n s i hw
    · simp [State.committedAt, hw, he, hc]
    · simp [State.committedAt, hw, he, hc, (hs.table.1 i e he).write_committed hl hk]
    · simp [State.committedAt, hw, he]

theorem withdrawn_admission : (withdrawn n s).admission = s.admission := by
  have hopen : ∀ i ∈ (s.byStamp (s.liveEntries n)).filter fun i => s.holds i fun e => e.kind == .write,
      ∃ e, (returnToReady false n ((s.byStamp (s.liveEntries n)).filter fun i => s.holds i fun e => e.kind == .read) s).entry i = some e ∧
        e.phase.isOpen = true := fun i hi => by
    obtain ⟨e, he, -, hl, -⟩ := mem_live_kind.mp hi
    rw [returnToReady_entry false n (nodup_live_kind s n .read), he]
    split
    · exact ⟨_, rfl, rfl⟩
    · exact ⟨e, rfl, Phase.isOpen_of_liveSeq hl⟩
  have hq : QueueLaw (returnToReady false n ((s.byStamp (s.liveEntries n)).filter fun i => s.holds i fun e => e.kind == .read) s) :=
    returnToReady_queueLaw hs.queue false (nodup_live_kind s n .read) fun i hi => by
      obtain ⟨e, he, hn, hl, -⟩ := mem_live_kind.mp hi
      exact ⟨e, he, hn, Entry.place_of_liveSeq hl⟩
  rw [withdrawn, finishAll_admission hq (nodup_live_kind s n .write) hopen, returnToReady_admission]
  refine List.filter_eq_self.mpr fun i hi => decide_eq_true fun hw => ?_
  obtain ⟨e, he, -, hl, -⟩ := mem_live_kind.mp hw
  obtain ⟨f, hf, hwait⟩ := hs.queue.head_waiting hi
  obtain rfl := Option.some.inj (he.symm.trans hf)
  rw [hwait] at hl; cases hl

end

theorem reprobed_lineLaw {s : State} (hs : Sound s) {n : NodeIx} {b : BoundNode} (hb : s.bound n = some b)
    (hon : ¬(b.health = .offline ∧ s.lineEnabled b.line = false)) : LineLaw (reprobed n s) := by
  have hbound : ∀ c, (reprobed n s).bound n = some c → c.line = b.line ∧ c.drop = b.drop ∧ c.issuingSeq = b.issuingSeq ∧
      c.health = .probing (some s.now) ∧ c.pendingAck = none := fun c hc => by
    have hout := withdrawn_outlineAt (s := s) (n := n) n
    rw [reprobed, abandonExchanges_bound, State.modBound_bound, if_pos rfl] at hc
    obtain ⟨d, hd, rfl⟩ := Option.map_eq_some_iff.mp hc
    rw [State.outlineAt, State.outlineAt, hd, hb, Option.map_some, Option.map_some] at hout
    obtain ⟨hl, hdr, -, hi, -⟩ := outline_eq (Option.some.inj hout)
    exact ⟨hl, hdr, hi, rfl, rfl⟩
  have hlines : ∀ k, (reprobed n s).line k =
      { s.line k with state := (s.line k).state.abandonIf fun x => x.node == n && x.kind == .poll } := fun k => by
    rw [reprobed, abandonExchanges_line, State.modBound_line]
    simp [withdrawn]
  refine lineLaw_of_node hs.line (n := n) (g := fun x => x.node == n && x.kind == .poll) (fun x hx => by simp_all) hlines
    (by rw [reprobed]; exact (withdrawn_handles hs.core).params) (fun m hm => ?_) (fun c hc hen hdis => ?_) (fun c q hc hq => ?_)
    (fun c hc hh => ?_) fun x k hx hg haddr => ?_
  · have h := (withdrawn_handles hs.core (n := n)).others m hm
    rw [← h, State.lineViewAt_eq, State.lineViewAt_eq, reprobed, abandonExchanges_bound, State.modBound_bound, if_neg (Ne.symm hm)]
  · obtain ⟨hl, -⟩ := hbound c hc
    rw [hl] at hen hdis
    have := (hs.line.1 b.line).2
    rw [hdis] at this
    exact absurd ⟨this.2 n b hb rfl, hen⟩ hon
  · obtain ⟨hl, -, hi, -⟩ := hbound c hc
    rw [hl, hlines]
    exact LineState.runs_abandonIf (hs.line.2.1 n b hb q (hi.symm.trans hq)) fun x hx => by simp_all
  · obtain ⟨-, -, -, hprobing, -⟩ := hbound c hc
    rw [hprobing] at hh; cases hh
  · obtain ⟨d, hd, hdl, hdd, hkind⟩ := haddr
    rw [hx] at hd
    obtain rfl := Option.some.inj (hb.symm.trans hd)
    have hsome : ∃ c, (reprobed n s).bound n = some c := by
      have hout := withdrawn_outlineAt (s := s) (n := n) n
      rw [State.outlineAt, State.outlineAt, hb, Option.map_some] at hout
      obtain ⟨c, hc, -⟩ := Option.map_eq_some_iff.mp hout
      exact ⟨_, by rw [reprobed, abandonExchanges_bound, State.modBound_bound, if_pos rfl, hc]; rfl⟩
    obtain ⟨c, hc⟩ := hsome
    obtain ⟨hl, hdr, hi, hh, hack⟩ := hbound c hc
    refine ⟨c, hx ▸ hc, hl.trans hdl, hdr.trans hdd, ?_⟩
    cases hk : x.kind with
    | reset => rw [hh]; rfl
    | poll => simp [hx, hk] at hg
    | request q =>
      rw [hk] at hkind
      exact ⟨by simp [hh], hi.trans hkind.2.1, by simp [hack]⟩

theorem nodeReprobeOp_sound {s : State} (hs : Sound s) (p : Port) (node : Byte) : Sound (nodeReprobeOp p node s).1 := by
  unfold nodeReprobeOp
  split
  · exact hs
  · split
    · exact hs
    · split
      · exact hs
      · rename_i n _ _ b hb
        split
        · exact hs
        · rename_i hon
          have hcore := reprobed_core hs.core (n := n)
          have hw : WaitersFrom s (reprobed n s) := fun i e he hw => (withdrawn_handles hs.core (n := n)).waiters i e he hw
          have hsound : Sound (reprobed n s) := ⟨hcore, headWaits_of hs.head hcore.queue hw
            (by rw [show (reprobed n s).admission = (withdrawn n s).admission from rfl, withdrawn_admission hs.core])
            (by rw [show (reprobed n s).committedTotal = (withdrawn n s).committedTotal from rfl, withdrawn_committedTotal hs.core])
            (by rw [show (reprobed n s).params = (withdrawn n s).params from rfl, (withdrawn_handles hs.core).params]),
            reprobed_lineLaw hs hb hon⟩
          rw [reprobe_eq]
          split
          · exact hsound
          · exact raiseBoth_sound hsound _

end Sys2Proof.Machine
end

section
/-! PROOFS. The parameters and the laws: SET_PARAM with the actions a write causes. -/

namespace Sys2Proof.Machine

/-- An event that keeps the laws but for the head of admission, followed by its test. -/
theorem sound_retest {s u : State} (hs : HeadWaits s) (hc : Core u) (hl : LineLaw u) (hw : WaitersFrom s u) : Sound (retest s u) :=
  ⟨retest_core hc, retest_headWaits hs hc hw, retest_lineLaw hl⟩

/-- The laws of a part with the same entries, queues and nodes. -/
theorem core_congr {s u : State} (hs : Core s) (he : ∀ i, u.entry i = s.entry i) (hq : u.queues = s.queues)
    (hb : ∀ n, u.bound n = s.bound n) (hc : ∀ n, (u.node n).counters = (s.node n).counters) (hbuf : u.buffer = s.buffer)
    (hl : s.committedTotal ≤ u.params.limit) (hp : ParamLaw u) : Core u where
  table := by simpa only [TableLaw, he] using hs.table
  queue := queueLaw_of_queues hq hs.queue
  total := by
    have ht : u.committedTotal = s.committedTotal := committedTotal_of_committedAt fun i => by
      simp only [State.committedAt, he]
    rw [ht]; exact hl
  buffer := ⟨occupied_nodup_of hs.buffer.1 fun i => by rw [State.blocksAt, he]; exact .refl _, by rw [hbuf]; exact hs.buffer.2⟩
  node := by simpa only [NodeLaw, he, hb, hc] using hs.node
  seq := seqLaw_of_outline hs.seq (fun i e h _ => by rwa [he] at h) fun n => by rw [State.outlineAt, hb]; rfl
  param := hp

/-! ## Line enables -/

theorem LineState.lawful_of_bound {s u : State} {k : LineIx} (hb : ∀ n, u.bound n = s.bound n)
    (hen : u.lineEnabled k = s.lineEnabled k) {r : LineState} (h : r.lawful s k) : r.lawful u k := by
  cases r <;> simpa only [LineState.lawful, Exchange.lawful, Exchange.addresses, hb, hen] using h

/-- The law of the lines when the enable and the state of one line change. -/
theorem lineLaw_of_line {s u : State} {l : LineIx} {r : LineState} (hs : LineLaw s) (hb : ∀ n, u.bound n = s.bound n)
    (hline : ∀ k, u.line k = if k = l then { s.line l with state := r } else s.line k)
    (hen : ∀ k, k ≠ l → u.lineEnabled k = s.lineEnabled k) (hr : r.lawful u l)
    (hruns : ∀ f, (s.line l).state.runs f = true → r.runs f = true) : LineLaw u := by
  obtain ⟨hstate, hiss, hprob⟩ := hs
  have hkeep : ∀ k f, (s.line k).state.runs f = true → (u.line k).state.runs f = true := fun k f h => by
    rw [hline]
    split
    · rename_i hk; subst hk; exact hruns f h
    · exact h
  refine ⟨fun k => ?_, fun n b h q hq => hkeep _ _ (hiss n b (hb n ▸ h) q hq), fun n b h hh => hkeep _ _ (hprob n b (hb n ▸ h) hh)⟩
  rw [hline]
  split
  · rename_i hk; subst hk; exact ⟨(hstate k).1, hr⟩
  · rename_i hk
    exact ⟨(hstate k).1, LineState.lawful_of_bound hb (hen k hk) (hstate k).2⟩

/-- The part with the enable of a line written. -/
def withEnable (l : LineIx) (set : Bool) (s : State) : State :=
  { s with params := { s.params with lineEnable := s.params.lineEnable.set l set } }

theorem withEnable_lineEnabled (l : LineIx) (set : Bool) (s : State) (k : LineIx) :
    (withEnable l set s).lineEnabled k = if k = l then set else s.lineEnabled k := by
  simp only [State.lineEnabled, withEnable, Fin.getElem_fin, Vector.getElem_set, Fin.val_inj, eq_comm]

theorem withEnable_core {s : State} (hs : Core s) (l : LineIx) (set : Bool) : Core (withEnable l set s) :=
  core_congr hs (fun _ => rfl) rfl (fun _ => rfl) (fun _ => rfl) rfl hs.total ⟨hs.param.1, hs.param.2⟩

theorem enableLine_lineLaw {s : State} (hs : LineLaw s) {l : LineIx} (hen : s.lineEnabled l = false) :
    LineLaw (enableLine l (withEnable l true s)) := by
  have hl := (hs.1 l).2
  have hother : ∀ k, k ≠ l → (withEnable l true s).lineEnabled k = s.lineEnabled k := fun k hk => by
    rw [withEnable_lineEnabled, if_neg hk]
  have hself : (withEnable l true s).lineEnabled l = true := by rw [withEnable_lineEnabled, if_pos rfl]
  have hstate : ((withEnable l true s).line l).state = (s.line l).state := rfl
  unfold enableLine
  rw [hstate]
  cases hr : (s.line l).state with
  | idle =>
    rw [hr] at hl
    exact absurd (hen.symm.trans hl) (by simp)
  | disabled =>
    exact lineLaw_of_line (l := l) (r := .idle) hs (fun _ => rfl)
      (fun k => by rw [State.modLine_line]; simp only [eq_comm]; rfl) hother hself (by simp [hr, LineState.runs])
  | exchanging pend x =>
    rw [hr] at hl
    obtain ⟨h1, h2, h3, h4, h5, -, h7, h8⟩ := hl
    refine lineLaw_of_line (l := l) (r := .exchanging false x) hs (fun _ => rfl)
      (fun k => by rw [State.modLine_line]; simp only [eq_comm]; rfl) hother ⟨h1, h2, h3, h4, h5, ?_, h7, h8⟩
      (by simp [hr, LineState.runs])
    exact (congrArg not hself).symm

theorem disableLine_keeps {s : State} (hs : Core s) (hline : LineLaw s) {l : LineIx} (hen : s.lineEnabled l = true) :
    Core (disableLine l (withEnable l false s)) ∧ LineLaw (disableLine l (withEnable l false s)) ∧
      WaitersFrom s (disableLine l (withEnable l false s)) := by
  have hl := (hline.1 l).2
  have hcore := withEnable_core hs l false
  have hother : ∀ k, k ≠ l → (withEnable l false s).lineEnabled k = s.lineEnabled k := fun k hk => by
    rw [withEnable_lineEnabled, if_neg hk]
  have hself : (withEnable l false s).lineEnabled l = false := by rw [withEnable_lineEnabled, if_pos rfl]
  have hstate : ((withEnable l false s).line l).state = (s.line l).state := rfl
  unfold disableLine
  rw [hstate]
  cases hr : (s.line l).state with
  | disabled =>
    rw [hr] at hl
    exact absurd (hen.symm.trans hl.1) (by simp)
  | idle =>
    have hfree : LinesFree l (· = .disabled) ((withEnable l false s).modLine l fun r => { r with state := .disabled }) := by
      have hne : ∀ {k : LineIx} {f : Exchange → Bool}, (s.line k).state.runs f = true → k ≠ l := fun {k f} h hk => by
        rw [hk, hr] at h; cases h
      refine ⟨fun k => ?_, fun k hk => ?_, ?_, fun n b q hb hq => ?_, fun n b hb hh => ?_⟩
      · rw [State.modLine_line]; split
        · exact (hline.1 l).1
        · exact (hline.1 k).1
      · rw [State.modLine_line, if_neg (Ne.symm hk)]
        exact LineState.lawful_of_bound (s := s) (by intro; rfl) (hother k hk) (hline.1 k).2
      · rw [State.modLine_line, if_pos rfl]
      · have h := hline.2.1 n b hb q hq
        refine ⟨hne h, ?_⟩
        rw [State.modLine_line, if_neg (Ne.symm (hne h))]; exact h
      · have h := hline.2.2 n b hb hh
        refine ⟨hne h, ?_⟩
        rw [State.modLine_line, if_neg (Ne.symm (hne h))]; exact h
    have hmod := core_modLine hcore l fun r => { r with state := .disabled }
    refine ⟨disableNodes_core hmod l, disableNodes_lineLaw hmod (by simpa using hself) hfree, fun i e he hw => ?_⟩
    exact (disableNodes_descends hmod l).waitersFrom i e he hw
  | exchanging pend x =>
    rw [hr] at hl
    obtain ⟨h1, h2, h3, h4, h5, -, h7, h8⟩ := hl
    refine ⟨core_modLine hcore l _, lineLaw_of_line (l := l) (r := .exchanging true x) hline (fun _ => rfl)
      (fun k => by rw [State.modLine_line]; simp only [eq_comm]; rfl) hother ⟨h1, h2, h3, h4, h5, ?_, h7, h8⟩
      (by simp [hr, LineState.runs]), fun _ _ he _ => he⟩
    exact (congrArg not hself).symm

theorem writeLineEnable_keeps {s : State} (hs : Core s) (hline : LineLaw s) (l : LineIx) (set : Bool) :
    Core (writeLineEnable l set s) ∧ LineLaw (writeLineEnable l set s) ∧ WaitersFrom s (writeLineEnable l set s) := by
  unfold writeLineEnable
  split
  · exact ⟨hs, hline, fun _ _ he _ => he⟩
  · rename_i hne
    cases set with
    | true =>
      have hen : s.lineEnabled l = false := by simpa using hne
      refine ⟨?_, enableLine_lineLaw hline hen, ?_⟩ <;> dsimp only <;> rw [if_pos rfl, enableLine]
      · split
        · exact core_modLine (withEnable_core hs l true) l _
        · exact core_modLine (withEnable_core hs l true) l _
        · exact withEnable_core hs l true
      · split <;> exact fun _ _ he _ => he
    | false => exact disableLine_keeps hs hline (by simpa using hne)

/-! ## The parameters of a node -/

theorem NodeParams.put_lawful {r : NodeParams} (h : r.lawful) {k : NodeParam} {v : Nat} (hv : k.range.1 ≤ v ∧ v ≤ k.range.2) :
    (r.put k v).lawful := by
  obtain ⟨h1, h2, h3, h4, h5, h6, h7, h8, h9, h10, h11, h12, h13⟩ := h
  cases k <;> simp only [NodeParam.range] at hv <;> simp only [NodeParams.put, NodeParams.lawful] <;> omega

theorem modNode_params_core {s : State} (hs : Core s) {n : NodeIx} {P : NodeParams} (hP : P.lawful) :
    Core (s.modNode n fun r => { r with params := P }) := by
  have hb : ∀ m, (s.modNode n fun r => { r with params := P }).bound m = s.bound m := fun m => by
    rw [State.modNode_bound]; split
    · rename_i h; subst h; rfl
    · rfl
  refine core_congr hs (fun _ => rfl) (State.modNode_queues rfl) hb (fun m => ?_) rfl hs.total ⟨hs.param.1, fun m => ?_⟩
  · rw [State.modNode_node]; split
    · rename_i h; subst h; rfl
    · rfl
  · rw [State.modNode_node]; split
    · exact hP
    · exact hs.param.2 m

/-! ## SET_PARAM -/

/-- A write that passes its tests keeps every law but that of admission's head. -/
theorem writeParam_keeps {s : State} (hs : Core s) (hline : LineLaw s) (p : Port) {v : Nat} {q : Param} (hrange : q.inRange v = true)
    (hpair : breaksPair s v q = false) (hlimit : breaksCommitment s v q = false) :
    Core (writeParam p v s q) ∧ LineLaw (writeParam p v s q) ∧ WaitersFrom s (writeParam p v s q) := by
  obtain ⟨g1, g2, g3, g4, g5, g6, g7, g8, g9, g10, g11, g12, g13, g14, g15, g16⟩ := hs.param.1
  simp only [Param.inRange, Bool.and_eq_true, decide_eq_true_eq] at hrange
  have global : ∀ P : GlobalParams, P.lineEnable = s.params.lineEnable → P.lawful → s.committedTotal ≤ P.limit →
      Core { s with params := P } ∧ LineLaw { s with params := P } ∧ WaitersFrom s { s with params := P } := fun P hP hl ht => by
    have hen : ∀ k, ({ s with params := P } : State).lineEnabled k = s.lineEnabled k := fun k => by
      simp only [State.lineEnabled, hP]
    refine ⟨core_congr hs (fun _ => rfl) rfl (fun _ => rfl) (fun _ => rfl) rfl ht ⟨hl, hs.param.2⟩, ?_, fun _ _ he _ => he⟩
    exact ⟨fun k => ⟨(hline.1 k).1, LineState.lawful_of_bound (s := s) (by intro; rfl) (hen k) (hline.1 k).2⟩, hline.2⟩
  have port : ∀ f : PortRec → PortRec, (f (s.port p)).completion = (s.port p).completion →
      Core (s.modPort p f) ∧ LineLaw (s.modPort p f) ∧ WaitersFrom s (s.modPort p f) := fun f hf =>
    ⟨modPort_core hs hf, modPort_lineLaw hline p f, fun i e he _ => by simpa using he⟩
  cases q with
  | limit =>
    simp only [breaksCommitment, Bool.or_eq_false_iff, decide_eq_false_iff_not] at hlimit
    simp only [Param.range] at hrange
    exact global _ rfl ⟨hrange.1, hrange.2, g3, g4, g5, g6, g7, g8, g9, g10, g11, g12, g13, g14, g15, g16⟩ (by dsimp only; omega)
  | responseWindow =>
    simp only [Param.range] at hrange
    exact global _ rfl ⟨g1, g2, hrange.1, hrange.2, g5, g6, g7, g8, g9, g10, g11, g12, g13, g14, g15, g16⟩ hs.total
  | dmin =>
    simp only [Param.range, breaksPair, decide_eq_false_iff_not] at hrange hpair
    exact global _ rfl ⟨g1, g2, g3, g4, hrange.1, by dsimp only; omega, g7, g8, g9, g10, g11, g12, g13, g14, g15, g16⟩ hs.total
  | dmax =>
    simp only [Param.range, breaksPair, decide_eq_false_iff_not] at hrange hpair
    exact global _ rfl ⟨g1, g2, g3, g4, g5, by dsimp only; omega, hrange.2, g8, g9, g10, g11, g12, g13, g14, g15, g16⟩ hs.total
  | guard =>
    simp only [Param.range] at hrange
    exact global _ rfl ⟨g1, g2, g3, g4, g5, g6, g7, hrange.2, g9, g10, g11, g12, g13, g14, g15, g16⟩ hs.total
  | probeInterval =>
    simp only [Param.range] at hrange
    exact global _ rfl ⟨g1, g2, g3, g4, g5, g6, g7, g8, hrange.1, hrange.2, g11, g12, g13, g14, g15, g16⟩ hs.total
  | suspectInterval =>
    simp only [Param.range] at hrange
    exact global _ rfl ⟨g1, g2, g3, g4, g5, g6, g7, g8, g9, g10, hrange.1, hrange.2, g13, g14, g15, g16⟩ hs.total
  | lineEnable l => exact writeLineEnable_keeps hs hline l (v == 1)
  | ceiling p' =>
    simp only [Param.range] at hrange
    cases p' with
    | a => exact global _ rfl ⟨g1, g2, g3, g4, g5, g6, g7, g8, g9, g10, g11, g12, hrange.1, hrange.2, g15, g16⟩ hs.total
    | b => exact global _ rfl ⟨g1, g2, g3, g4, g5, g6, g7, g8, g9, g10, g11, g12, g13, g14, hrange.1, hrange.2⟩ hs.total
  | holdTime => exact port (fun r => { r with params := { r.params with holdTime := v } }) rfl
  | queueAttention => exact port (fun r => { r with params := { r.params with queueAttention := v == 1 } }) rfl
  | eventEnable ev =>
    exact port (fun r => { r with params := { r.params with enables := putEnable ev (v == 1) r.params.enables } }) rfl
  | node n k =>
    have hput := NodeParams.put_lawful (hs.param.2 n) (k := k) hrange
    have heq : writeParam p v s (.node n k) = s.modNode n fun r => { r with params := (s.node n).params.put k v } := rfl
    rw [heq]
    exact ⟨modNode_params_core hs hput,
      lineLaw_congr' (s := s) (fun _ => rfl) rfl (fun m => State.lineViewAt_of_outline (State.modNode_outlineAt rfl m)) hline,
      fun _ _ he _ => he⟩

theorem setParamOp_sound {s : State} (hs : Sound s) (p : Port) (num value : Nat) : Sound (setParamOp p num value s).1 := by
  unfold setParamOp
  split
  · exact hs
  · split
    · exact hs
    · split
      · exact hs
      · rename_i hrange
        split
        · exact hs
        · rename_i hpair
          split
          · exact hs
          · rename_i hlimit
            obtain ⟨hc, hl, hw⟩ := writeParam_keeps hs.core hs.line p (by simpa using hrange) (by simpa using hpair) (by simpa using hlimit)
            exact sound_retest hs.head hc hl hw

end Sys2Proof.Machine
end

section
/-! PROOFS. Every step keeps the laws of the table, the queues, admission, the buffer, the nodes, the seqs and the lines; the law
of the ports it does not keep. -/

namespace Sys2Proof.Machine

/-! ## Frames on a port -/

theorem ite_ne {α : Type} {P : Prop} [Decidable P] {a b c : α} (ha : a ≠ c) (hb : b ≠ c) : (if P then a else b) ≠ c := by
  split <;> assumption

/-- The payload of a write that a frame holds stands behind four bytes of operands. -/
theorem parseCommand_submitWrite {code flags tag node : Byte} {addr : Word} {payload data : List Byte}
    (h : parseCommand code flags payload = .command (.submitWrite tag node addr data)) : data.length + 4 = payload.length := by
  unfold parseCommand at h
  by_cases h10 : code = 0x10
  · rw [if_pos h10] at h
    split at h <;> cases h
  · rw [if_neg h10] at h
    by_cases h11 : code = 0x11
    · rw [if_pos h11] at h
      split at h
      · cases h; rfl
      · cases h
    · rw [if_neg h11] at h
      refine absurd h ?_
      repeat' apply ite_ne
      all_goals (try split) <;> simp

theorem runCommand_sound {s : State} (hs : Sound s) (p : Port) {c : HostCommand}
    (hlen : ∀ tag node addr data, c = .submitWrite tag node addr data → data.length ≤ 64) : Sound (runCommand p c s).1 := by
  cases c with
  | submitRead tag node addr len => exact submitReadOp_sound hs p tag node addr len
  | submitWrite tag node addr data => exact submitWriteOp_sound hs p tag node addr (hlen _ _ _ _ rfl)
  | cancel tag => exact cancelOp_sound hs p tag
  | query tag => rw [runCommand, queryOp_state]; exact hs
  | collect => exact collectHead_sound hs p
  | portStatus clear => exact portStatusOp_sound hs p clear
  | readEvents => exact readEventsOp_sound hs p
  | portReset => rw [runCommand, portResetOp_eq]; exact portFlushed_sound hs p
  | nodeAttach node line drop window mode => exact nodeAttachOp_sound hs p node line drop window mode
  | nodeDetach node => exact nodeDetachOp_sound hs p node
  | nodeReprobe node => exact nodeReprobeOp_sound hs p node
  | nodeStatus node clear => exact nodeStatusOp_sound hs node clear
  | lineStatus line clear => exact lineStatusOp_sound hs line clear
  | setParam number value => exact setParamOp_sound hs p number.toNat value.toNat
  | getParam number => rw [runCommand, getParamOp_state]; exact hs
  | deviceReset => exact deviceResetOp_sound hs p
  | echo payload => exact hs

theorem respond_sound {s : State} (hs : Sound s) (p : Port) (reply : Reply) : Sound (respond p reply s) :=
  modPort_sound hs (f := fun r => { r with receiver := .turnaround 0 reply.frame }) rfl

theorem countAnswered_sound {s : State} (hs : Sound s) (p : Port) : Sound (countAnswered p s) :=
  modPort_sound hs (f := fun r => { r with counters := { r.counters with answered := bump r.counters.answered } }) rfl

theorem refuseFrame_sound {s : State} (hs : Sound s) (p : Port) (code : Code) : Sound (refuseFrame p code s) :=
  respond_sound (modPort_sound hs
    (f := fun r => { r with counters := { r.counters with errors := bump r.counters.errors } }) rfl) p _

theorem judgeCommand_sound {s : State} (hs : Sound s) (p : Port) (flags : Byte) (c : HostCommand) (check : Byte) :
    Sound (judgeCommand p flags c check (runCommand p c) s) := by
  have hcount := countAnswered_sound hs p
  unfold judgeCommand
  dsimp only
  split
  · exact refuseFrame_sound hcount p _
  · rename_i hlen
    split
    · exact refuseFrame_sound hcount p _
    · split
      · exact refuseFrame_sound hcount p _
      · refine respond_sound (runCommand_sound hcount p fun tag node addr data hc => ?_) p _
        subst hc
        simp [HostCommand.payload, maxDeclared, wordBytes] at hlen
        omega

theorem hostCommand_sound {s : State} (hs : Sound s) (p : Port) (flags : Byte) (c : HostCommand) (check : Byte) :
    Sound (hostCommand p flags c check (runCommand p c) s) := by
  have hframed : Sound (framed p flags c s) :=
    modPort_sound hs (f := fun r => { r with csLow := true, receiver := .command (c.bytes flags) }) rfl
  unfold hostCommand
  split
  · exact hs
  · split
    · exact judgeCommand_sound hframed p flags c check
    · split
      · exact judgeCommand_sound hframed p flags c check
      · exact hs
    all_goals exact hs

theorem judgeFrame_sound {s : State} (hs : Sound s) (p : Port) (declared : Nat) {bytes : List Byte} (hb : bytes.length ≤ 72)
    (check : Byte) : Sound (judgeFrame p declared bytes check s) := by
  have hcount := countAnswered_sound hs p
  unfold judgeFrame
  dsimp only
  split
  · exact refuseFrame_sound hcount p _
  · split
    · exact refuseFrame_sound hcount p _
    · split
      · exact refuseFrame_sound hcount p _
      · exact refuseFrame_sound hcount p _
      · rename_i c hc
        refine respond_sound (runCommand_sound hcount p fun tag node addr data h => ?_) p _
        subst h
        have := parseCommand_submitWrite hc
        rw [List.length_drop] at this
        omega

theorem clockByte_sound {s : State} (hs : Sound s) {p : Port} (hr : (s.port p).receiver.lawful) (byte : Byte) :
    Sound (clockByte p byte s) := by
  unfold clockByte
  split
  · exact hs
  · split
    · rename_i soFar hsoFar
      rw [hsoFar] at hr
      unfold commandByte
      split
      · exact modPort_sound hs (f := fun r => { r with receiver := .command (soFar ++ [byte]) }) rfl
      · exact judgeFrame_sound hs p _ hr byte
    all_goals exact modPort_sound hs (f := fun r => { r with receiver := r.receiver.clocked }) rfl

/-! ## Every command -/

theorem exec_sound {s t : State} (hs : Lawful s) {c : Instr} (h : exec c s = .next t) : Sound t := by
  have hadv := fun τ => advance_lawful hs τ
  have run : ∀ τ (f : State → State), (∀ v, Lawful v → Lawful (f v)) → Sound (whenRunning τ f s) := fun τ f hf =>
    (whenRunning_lawful hs τ hf).sound
  cases hf : hostFrame c with
  | some f =>
    rw [exec_hostFrame hf] at h
    exact Host.Outcome.next.inj h ▸ hostCommand_sound (hadv f.time).sound f.port f.flags f.command f.check
  | none =>
    cases c with
    | chipSelectFall τ p => exact Host.Outcome.next.inj h ▸ selectFalls_sound (hadv τ).sound p
    | chipSelectRise τ p => exact Host.Outcome.next.inj h ▸ selectRises_sound (hadv τ).sound ((hadv τ).body p)
    | rstnLow τ => exact Host.Outcome.next.inj h ▸ holdReset_sound (hadv τ).sound
    | rstnRise τ => exact Host.Outcome.next.inj h ▸ releaseReset_sound (hadv τ).sound
    | lineGrant τ l => exact Host.Outcome.next.inj h ▸ run τ _ fun v hv => arbitrate_lawful hv l
    | frameSent τ l => exact Host.Outcome.next.inj h ▸ run τ _ fun v hv => openWindow_lawful hv l
    | ident τ l drop cls window => exact Host.Outcome.next.inj h ▸ run τ _ fun v hv => receiveAnswer_lawful hv l drop _
    | accept τ l drop seq => exact Host.Outcome.next.inj h ▸ run τ _ fun v hv => receiveAnswer_lawful hv l drop _
    | refuse τ l drop seq reason => exact Host.Outcome.next.inj h ▸ run τ _ fun v hv => receiveAnswer_lawful hv l drop _
    | segment τ l drop seq flags offset data =>
      exact Host.Outcome.next.inj h ▸ run τ _ fun v hv => receiveAnswer_lawful hv l drop _
    | pending τ l drop seqs => exact Host.Outcome.next.inj h ▸ run τ _ fun v hv => receiveAnswer_lawful hv l drop _
    | fault τ l drop seq code => exact Host.Outcome.next.inj h ▸ run τ _ fun v hv => receiveAnswer_lawful hv l drop _
    | responseWindowExpiry τ l => exact Host.Outcome.next.inj h ▸ run τ _ fun v hv => windowExpires_lawful hv l
    | brokenAnswer τ l => exact Host.Outcome.next.inj h ▸ run τ _ fun v hv => answerBreaks_lawful hv l
    | deadlineExpiry τ i => exact Host.Outcome.next.inj h ▸ run τ _ fun v hv => deadlineReached_lawful hv i
    | holdExpiry τ i => exact Host.Outcome.next.inj h ▸ run τ _ fun v hv => holdReached_lawful hv i
    | probeTime τ n => exact Host.Outcome.next.inj h ▸ run τ id fun v hv => hv
    | firstPollTime τ i => exact Host.Outcome.next.inj h ▸ run τ id fun v hv => hv
    | suspectCheckTime τ n => exact Host.Outcome.next.inj h ▸ run τ id fun v hv => hv
    | earliestPollTimeEnd τ n => exact Host.Outcome.next.inj h ▸ run τ _ fun v hv => earliestPollReached_lawful hv n
    | refuseBackOffEnd τ n => exact Host.Outcome.next.inj h ▸ run τ _ fun v hv => refuseEndReached_lawful hv n
    | invalidAnswer τ l bytes =>
      have ht : (if s.rstnLow then s.advance τ else receiveBytes τ l bytes s) = t := Host.Outcome.next.inj h
      rw [← ht]
      split
      · exact (hadv τ).sound
      · exact (receiveBytes_lawful hs τ l bytes).sound
    | byteClocked τ p byte =>
      obtain ⟨ha, hb, -⟩ := (hadv τ).portLaw
      exact Host.Outcome.next.inj h ▸ clockByte_sound (hadv τ).sound (by cases p; exacts [ha.1, hb.1]) byte
    | _ => simp [hostFrame] at hf

/-- The markers of a port are gone while no command has executed. -/
theorem PortRec.lawful.markers {r : PortRec} (h : r.lawful) (hx : r.receiver.hasExecuted = false) :
    r.readMarker = none ∧ r.collect = none := (PortRec.lawful_iff.mp h).2.2 hx

theorem step_sound {s t : State} (hs : Lawful s) (h : step s = .next t) : Sound t := by
  unfold step at h
  split at h
  · exact Host.Outcome.next.inj h ▸ hs.sound
  · rename_i c rest _
    have hs' : Lawful { s with pending := rest } := hs
    exact exec_sound hs' h

/-- Settles O4: each entry of the part after a step follows one of the part before, or is a new one under a tag that was free. -/
theorem stepKeepsTheTableLaw : Obligations.StepKeepsTheTableLaw := fun _ _ hs h => (step_sound hs h).core.table

/-- Settles O5: an entry that moves leaves the queue it stood in and joins the one of its new state. -/
theorem stepKeepsTheQueueLaw : Obligations.StepKeepsTheQueueLaw := fun _ _ hs h => (step_sound hs h).core.queue

/-- Settles O6: an event that could make room for the head of admission tests it, and blocks are taken from the free pool alone. -/
theorem stepKeepsTheAdmissionAndBufferLaws : Obligations.StepKeepsTheAdmissionAndBufferLaws := fun _ _ hs h =>
  ⟨⟨(step_sound hs h).core.total, (step_sound hs h).head⟩, (step_sound hs h).core.buffer⟩

/-- Settles O7: a node that leaves service leaves no open entry behind, and a position is taken once. -/
theorem stepKeepsTheNodeLaw : Obligations.StepKeepsTheNodeLaw := fun _ _ hs h => (step_sound hs h).core.node

/-- Settles O8: a seq is taken when it is free, and is abandoned when its entry gives it up. -/
theorem stepKeepsTheSeqLaw : Obligations.StepKeepsTheSeqLaw := fun _ _ hs h => (step_sound hs h).core.seq

/-- Settles O9: an exchange ends before what it stands for at its node is gone, or is abandoned with it. -/
theorem stepKeepsTheLineLaw : Obligations.StepKeepsTheLineLaw := fun _ _ hs h => (step_sound hs h).line

/-! ## The ports -/

/-- A part with RSTN low whose port A has shifted out a response with its events in the read marker: the laws say of a receiver
while RSTN is low only that it goes with its markers. -/
def heldInResponse : State :=
  { State.reset with
    rstnLow := true
    portA := { PortRec.powerOn with csLow := true, receiver := .trailing, readMarker := some [] }
    pending := [.rstnRise 0] }

theorem heldInResponse_lawful : Lawful heldInResponse := lawful_of_decide (by decide +kernel)

theorem heldInResponse_step : step heldInResponse = .next (releaseReset ({ heldInResponse with pending := [] }.advance 0)) := rfl

/-- Refutes O10: RSTN rising puts the receiver of port A of `heldInResponse`, a lawful state, in IGNORING and leaves the read
marker, which is then present although no command has executed. -/
theorem not_stepKeepsThePortAndParamLaws : ¬ Obligations.StepKeepsThePortAndParamLaws := by
  intro h
  have hport := (h heldInResponse _ heldInResponse_lawful heldInResponse_step).1.1
  cases (PortRec.lawful.markers (r := (releaseReset ({ heldInResponse with pending := [] }.advance 0)).portA) hport rfl).1

end Sys2Proof.Machine
end

section
/-! PROOFS. What every command does to the time and the queue, RSTN, the receiver's moves, and the times that gate a candidate. -/

namespace Sys2Proof.Machine

/-! ## The front of the queue -/

/-- Settles O1: the step of a nonempty queue takes its front off. -/
theorem stepRunsTheFrontCommand : Obligations.StepRunsTheFrontCommand := fun _ s =>
  ⟨rfl, fun h => by rw [step, h]⟩

/-! ## Every command completes -/

@[simp] theorem execute_kept (p : Port) (c : HostCommand) (s : State) : (execute p (runCommand p c) s).kept = s.kept := by
  simp [execute]

@[simp] theorem judgeCommand_kept (p : Port) (flags : Byte) (c : HostCommand) (check : Byte) (s : State) :
    (judgeCommand p flags c check (runCommand p c) s).kept = s.kept := by
  unfold judgeCommand
  split_ifs <;> simp

@[simp] theorem hostCommand_kept (p : Port) (flags : Byte) (c : HostCommand) (check : Byte) (s : State) :
    (hostCommand p flags c check (runCommand p c) s).kept = s.kept := by
  unfold hostCommand
  split
  · rfl
  · split <;> try split
    all_goals simp

theorem whenRunning_kept {f : State → State} (hf : ∀ v, (f v).kept = v.kept) (t : Time) (s : State) :
    (whenRunning t f s).kept = (s.advance t).kept := by
  unfold whenRunning
  split
  · rfl
  · exact hf _

theorem hostFrame_time {c : Instr} {f : HostFrame} (h : hostFrame c = some f) : f.time = commandTime c := by
  cases c <;> simp only [hostFrame, reduceCtorEq, Option.some.injEq] at h <;> subst h <;> rfl

/-- The time and the queue of the part after a command that moves of what is kept the time alone. -/
theorem now_pending_of_kept {s u : State} {t : Time} (h : u.kept = (s.advance t).kept) :
    u.now = max s.now t ∧ u.pending = s.pending := ⟨(State.kept_eq h).1, (State.kept_eq h).2.2⟩

theorem releaseReset_now_pending (s : State) : (releaseReset s).now = s.now ∧ (releaseReset s).pending = s.pending := by
  unfold releaseReset
  split <;> exact ⟨rfl, rfl⟩

/-- Settles O2, by a frame lemma of each command. -/
theorem everyCommandCompletes : Obligations.EveryCommandCompletes := by
  intro c s
  have run : ∀ t (f : State → State), (∀ v, (f v).kept = v.kept) →
      (whenRunning t f s).now = max s.now t ∧ (whenRunning t f s).pending = s.pending := fun t f hf =>
    now_pending_of_kept (whenRunning_kept hf t s)
  cases hf : hostFrame c with
  | some f =>
    refine ⟨_, exec_hostFrame hf s, ?_⟩
    rw [← hostFrame_time hf]
    exact now_pending_of_kept (hostCommand_kept ..)
  | none =>
    cases c with
    | chipSelectFall t p => exact ⟨_, rfl, now_pending_of_kept (selectFalls_kept ..)⟩
    | chipSelectRise t p => exact ⟨_, rfl, now_pending_of_kept (selectRises_kept ..)⟩
    | rstnLow t => exact ⟨_, rfl, rfl, rfl⟩
    | rstnRise t => exact ⟨_, rfl, releaseReset_now_pending _⟩
    | lineGrant t l => exact ⟨_, rfl, run t _ (arbitrate_kept l)⟩
    | frameSent t l => exact ⟨_, rfl, run t _ (openWindow_kept l)⟩
    | ident t l drop cls window => exact ⟨_, rfl, run t _ (receiveAnswer_kept l drop _)⟩
    | accept t l drop seq => exact ⟨_, rfl, run t _ (receiveAnswer_kept l drop _)⟩
    | refuse t l drop seq reason => exact ⟨_, rfl, run t _ (receiveAnswer_kept l drop _)⟩
    | segment t l drop seq flags offset data => exact ⟨_, rfl, run t _ (receiveAnswer_kept l drop _)⟩
    | pending t l drop seqs => exact ⟨_, rfl, run t _ (receiveAnswer_kept l drop _)⟩
    | fault t l drop seq code => exact ⟨_, rfl, run t _ (receiveAnswer_kept l drop _)⟩
    | responseWindowExpiry t l => exact ⟨_, rfl, run t _ (windowExpires_kept l)⟩
    | brokenAnswer t l => exact ⟨_, rfl, run t _ (answerBreaks_kept l)⟩
    | deadlineExpiry t i => exact ⟨_, rfl, run t _ (deadlineReached_kept i)⟩
    | holdExpiry t i => exact ⟨_, rfl, run t _ (holdReached_kept i)⟩
    | probeTime t n => exact ⟨_, rfl, run t id fun _ => rfl⟩
    | firstPollTime t i => exact ⟨_, rfl, run t id fun _ => rfl⟩
    | suspectCheckTime t n => exact ⟨_, rfl, run t id fun _ => rfl⟩
    | earliestPollTimeEnd t n => exact ⟨_, rfl, run t _ (earliestPollReached_kept n)⟩
    | refuseBackOffEnd t n => exact ⟨_, rfl, run t _ (refuseEndReached_kept n)⟩
    | invalidAnswer t l bytes =>
      refine ⟨_, rfl, now_pending_of_kept ?_⟩
      split
      · rfl
      · exact receiveBytes_kept t l bytes s
    | byteClocked t p byte => exact ⟨_, rfl, now_pending_of_kept (clockByte_kept ..)⟩
    | _ => simp [hostFrame] at hf

/-! ## While RSTN is low -/

theorem whenRunning_low {t : Time} {f : State → State} {s : State} (h : s.rstnLow = true) : whenRunning t f s = s.advance t := by
  simp [whenRunning, h]

theorem hostCommand_low {p : Port} {flags : Byte} {c : HostCommand} {check : Byte} {run : State → State × Reply} {s : State}
    (h : s.rstnLow = true) : hostCommand p flags c check run s = s := by
  simp [hostCommand, h]

/-- The update of a port by functions that agree on its record. -/
theorem State.modPort_congr {s : State} {p : Port} {f g : PortRec → PortRec} (h : f (s.port p) = g (s.port p)) :
    s.modPort p f = s.modPort p g := by
  rw [State.modPort, State.modPort, h]

theorem State.modPort_self {s : State} {p : Port} {f : PortRec → PortRec} (h : f (s.port p) = s.port p) : s.modPort p f = s := by
  rw [State.modPort, h]
  cases p <;> rfl

theorem selectFalls_low {p : Port} {s : State} (h : s.rstnLow = true) :
    selectFalls p s = s.modPort p fun r => { r with csLow := true } := by
  refine State.modPort_congr ?_
  split
  · next hcs => rw [← hcs]
  · simp

theorem selectRises_low {p : Port} {s : State} (h : s.rstnLow = true) :
    selectRises p s = s.modPort p fun r => { r with csLow := false } := by
  unfold selectRises
  split
  · next hcs => exact (State.modPort_self (by rw [← hcs])).symm
  · simp

/-- Settles O14: every command asks first whether RSTN is low. -/
theorem nothingActsWhileRstnIsLow : Obligations.NothingActsWhileRstnIsLow := by
  intro c s h
  cases hf : hostFrame c with
  | some f =>
    have hexec : exec c s = .next (s.advance (commandTime c)) := by
      rw [exec_hostFrame hf, hostFrame_time hf, hostCommand_low (by exact h)]
    cases c <;> first | exact hexec | simp [hostFrame] at hf
  | none =>
    cases c with
    | chipSelectFall t p => exact congrArg Host.Outcome.next (selectFalls_low (by exact h))
    | chipSelectRise t p => exact congrArg Host.Outcome.next (selectRises_low (by exact h))
    | rstnLow t => trivial
    | rstnRise t => trivial
    | invalidAnswer t l bytes => exact congrArg Host.Outcome.next (if_pos h)
    | byteClocked t p byte => exact congrArg Host.Outcome.next (if_pos (by exact h))
    | lineGrant | frameSent | ident | accept | refuse | segment | pending | fault | responseWindowExpiry | brokenAnswer
    | deadlineExpiry | holdExpiry | probeTime | firstPollTime | suspectCheckTime | earliestPollTimeEnd | refuseBackOffEnd =>
      exact congrArg Host.Outcome.next (whenRunning_low h)
    | _ => simp [hostFrame] at hf

/-! ## RSTN's edges -/

/-- Settles O32: RSTN low is the reset state but for what is named, and its rise touches the receivers alone. -/
theorem rstnResetsThePart : Obligations.RstnResetsThePart := by
  constructor
  · intro t s
    refine ⟨_, exec_rstnLow t s, rfl, fun p => ?_⟩
    rw [holdReset_port]
    cases p <;> rfl
  · intro t s
    refine ⟨_, exec_rstnRise t s, ?_⟩
    cases h : s.rstnLow with
    | true =>
      have hu : releaseReset (s.advance t) = { s.advance t with
          rstnLow := false, portA := s.portA.released, portB := s.portB.released } := if_pos h
      rw [hu]
      exact ⟨rfl, fun p => by cases p <;> rfl⟩
    | false =>
      have hu : releaseReset (s.advance t) = s.advance t := if_neg (by simp [h])
      rw [hu]
      refine ⟨?_, fun p => by simp⟩
      rw [← h]
      rfl

/-! ## The receiver -/

theorem exec_chipSelectFall (t : Time) (p : Port) (s : State) :
    exec (.chipSelectFall t p) s = .next (selectFalls p (s.advance t)) := rfl

theorem exec_byteClocked (t : Time) (p : Port) (byte : Byte) (s : State) :
    exec (.byteClocked t p byte) s = .next (clockByte p byte (s.advance t)) := rfl

theorem selectFalls_high {p : Port} {s : State} (h : s.rstnLow = false) (hcs : (s.port p).csLow = false) :
    selectFalls p s = s.modPort p fun r => { r with csLow := true, receiver := .command [] } :=
  State.modPort_congr (by simp [h, hcs])

theorem clockByte_command {p : Port} {byte : Byte} {s : State} {soFar : List Byte} (h : s.rstnLow = false)
    (hr : (s.port p).receiver = .command soFar) : clockByte p byte s = commandByte p soFar byte s := by
  simp [clockByte, h, hr]

theorem commandByte_kept_byte {p : Port} {soFar : List Byte} (byte : Byte) (s : State)
    (h : soFar.length < 4 ∨ declaredLength soFar ≤ 68 ∧ soFar.length < 4 + declaredLength soFar) :
    commandByte p soFar byte s = s.modPort p fun r => { r with receiver := .command (soFar ++ [byte]) } := by
  refine if_pos (h.imp_right ?_)
  rintro ⟨hle, hlt⟩
  rwa [bytesBeforeCheck, if_neg (by simpa [maxDeclared] using hle)]

/-- A byte in COMMAND once every byte before the check byte has been clocked. -/
theorem commandByte_check {p : Port} {soFar : List Byte} (byte : Byte) (s : State) (h4 : 4 ≤ soFar.length)
    (h : bytesBeforeCheck soFar ≤ soFar.length) :
    commandByte p soFar byte s = judgeFrame p (declaredLength soFar) soFar byte s := if_neg (by omega)

theorem clockByte_rest {p : Port} {byte : Byte} {s : State} (h : s.rstnLow = false)
    (hr : ∀ soFar, (s.port p).receiver ≠ .command soFar) :
    clockByte p byte s = s.modPort p fun r => { r with receiver := r.receiver.clocked } := by
  rw [clockByte, if_neg (by simp [h])]
  split
  · next soFar hc => exact absurd hc (hr soFar)
  all_goals rfl

/-- The receiver's move on a byte, once for a turnaround whatever number of its bytes has been clocked. -/
theorem clocked_eq (r : Receiver) :
    r.clocked =
      match r with
      | .turnaround clocked response => if clocked = 0 then .turnaround 1 response else .response response 0
      | .response response shifted =>
        if shifted + 1 < response.length then .response response (shifted + 1) else .trailing
      | other => other := by
  cases r with
  | turnaround clocked response => cases clocked <;> rfl
  | _ => rfl

/-- Settles O16: the receiver by its state, a byte before the check byte's place being kept. -/
theorem receiverMoves : Obligations.ReceiverMoves := by
  refine ⟨?_, ?_, ?_, ?_⟩
  · intro t p s h hcs
    rw [exec_chipSelectFall, selectFalls_high (by exact h) (by simpa using hcs)]
  · intro t p byte soFar s h hr hplace
    rw [exec_byteClocked, clockByte_command (by exact h) (by simpa using hr), commandByte_kept_byte byte _ hplace]
  · intro t p byte s h hr
    have hnot : ∀ soFar, ((s.advance t).port p).receiver ≠ .command soFar := by
      intro soFar hc
      rw [State.advance_port] at hc
      simp [hc, Receiver.hasExecuted] at hr
    rw [exec_byteClocked, clockByte_rest (by exact h) hnot]
    exact congrArg _ (State.modPort_congr
      (congrArg (fun c => { (s.advance t).port p with receiver := c }) (clocked_eq ((s.advance t).port p).receiver)))
  · intro p s h hcs
    cases hr : (s.port p).receiver <;> simp [dataOut, h, hcs, hr]

/-! ## The times that gate a candidate -/

theorem max_ge_of_le {due t now : Time} (h : due ≤ t) : due ≤ max now t := le_trans h (le_max_right ..)

/-- Settles O54: a gate is read against now at every search, and a back-off that has ended is removed. -/
theorem timesGateTheCandidates : Obligations.TimesGateTheCandidates := by
  intro t n i s h
  refine ⟨congrArg _ (whenRunning_high h), congrArg _ (whenRunning_high h), congrArg _ (whenRunning_high h), ?_, ?_, ?_,
    congrArg _ (whenRunning_high h), congrArg _ (whenRunning_high h)⟩
  · intro b due _ hh hdue
    exact ⟨due, hh, max_ge_of_le hdue⟩
  · intro e seq deadline first accepted he hp hfirst b _ honline hnone
    refine .inl ⟨by simp [honline, Health.inService], by simp [stillRuns, hnone], .inr (.inl ?_)⟩
    exact ⟨i, e, he, rfl, .inl ⟨seq, deadline, first, accepted, hp, max_ge_of_le hfirst⟩⟩
  · intro b due _ hh hdue
    exact .inr ⟨due, hh, max_ge_of_le hdue⟩

end Sys2Proof.Machine
end

section
/-! PROOFS. What a host asks of one transaction by its tag: CANCEL and QUERY. -/

namespace Sys2Proof.Machine

/-! ## An entry by its tag -/

@[simp] theorem received_tagged (f : HostFrame) (s : State) (p : Port) (k : Tag) : (f.received s).tagged p k = s.tagged p k := by
  rw [received_eq]
  simp

theorem State.names.tagged {s : State} (hs : TableLaw s) {p : Port} {tag : Byte} {i : EntryIx} {e : Entry}
    (h : s.names p tag i e) : ∃ k, tagOf tag = some k ∧ s.tagged p k = some i ∧ s.entry i = some e := by
  obtain ⟨he, hp, htag⟩ := h
  exact ⟨e.tag, tagOf_eq_some_iff.mpr htag, State.tagged_of_names hs he hp rfl, he⟩

theorem tagged_none_of_not_names {s : State} {p : Port} {tag : Byte} (hle : tag.toNat ≤ 31) (h : ∀ i e, ¬s.names p tag i e) :
    ∃ k, tagOf tag = some k ∧ s.tagged p k = none := by
  refine ⟨⟨tag.toNat, by omega⟩, tagOf_eq_some_iff.mpr rfl, State.tagged_eq_none_iff.mpr fun i e he hp hk => ?_⟩
  exact h i e ⟨he, hp, by rw [hk]⟩

/-! ## CANCEL -/

theorem cancelOp_badTag {p : Port} {tag : Byte} {s : State} (h : tagOf tag = none) :
    cancelOp p tag s = (s, .bare .badTag) := by simp [cancelOp, h]

theorem cancelOp_notFound {p : Port} {tag : Byte} {k : Tag} {s : State} (h : tagOf tag = some k) (hk : s.tagged p k = none) :
    cancelOp p tag s = (s, .bare .notFound) := by simp [cancelOp, h, hk]

theorem cancelOp_found {p : Port} {tag : Byte} {k : Tag} {i : EntryIx} {e : Entry} {s : State} (h : tagOf tag = some k)
    (hk : s.tagged p k = some i) (he : s.entry i = some e) :
    cancelOp p tag s = if e.phase.isOpen then (cancelEntry i e s, .bare .ok) else (s, .bare .alreadyDone) := by
  simp [cancelOp, h, hk, he]

theorem Phase.isOpen_eq_not_isDone (r : Phase) : r.isOpen = !r.isDone := by cases r <;> rfl

theorem abandonLive_eq (e : Entry) (s : State) :
    abandonLive e s =
      match e.phase.liveSeq with
      | some seq => s.modBound e.node fun b => { b with abandoned := withSeq seq b.abandoned }
      | none => s := by
  cases h : e.phase.liveSeq with
  | none => exact abandonLive_none s h
  | some seq => exact abandonLive_some s h

/-- Settles O20: the tag is looked up once, and the entry it names is cancelled when it is open. -/
theorem cancelAnswersByState : Obligations.CancelAnswersByState := by
  intro f tag s hs hf
  refine ⟨fun hbad => ?_, fun hle hnone => ?_, fun i e hnames => ?_⟩
  · exact exec_brings rfl hf (cancelOp_badTag (tagOf_eq_none_iff.mpr hbad))
  · obtain ⟨k, hk, htag⟩ := tagged_none_of_not_names hle hnone
    exact exec_brings rfl hf (cancelOp_notFound hk (by rw [received_tagged, htag]))
  · obtain ⟨k, hk, htag, he⟩ := hnames.tagged hs.1
    have hrun := cancelOp_found (p := f.port) (s := f.received s) hk (by rw [received_tagged, htag]) (by rw [received_entry, he])
    cases hd : e.phase.isDone with
    | true =>
      rw [if_neg (by simp [Phase.isOpen_eq_not_isDone, hd])] at hrun
      exact exec_brings rfl hf hrun
    | false =>
      rw [if_pos (by simp [Phase.isOpen_eq_not_isDone, hd]), cancelEntry, abandonLive_eq, retest_received] at hrun
      exact exec_brings rfl hf hrun

/-! ## QUERY -/

theorem queryOp_badTag {p : Port} {tag : Byte} {s : State} (h : tagOf tag = none) :
    queryOp p tag s = (s, .bare .badTag) := by simp [queryOp, h]

theorem queryOp_notFound {p : Port} {tag : Byte} {k : Tag} {s : State} (h : tagOf tag = some k) (hk : s.tagged p k = none) :
    queryOp p tag s = (s, .bare .notFound) := by simp [queryOp, h, hk]

theorem queryOp_found {p : Port} {tag : Byte} {k : Tag} {i : EntryIx} {e : Entry} {s : State} (h : tagOf tag = some k)
    (hk : s.tagged p k = some i) (he : s.entry i = some e) : queryOp p tag s = (s, ⟨.ok, queryBytes s i e⟩) := by
  simp [queryOp, h, hk, he]

/-- The place of an entry in a queue that names no entry twice. -/
theorem position_of_getElem? {q : List EntryIx} (hq : q.Nodup) {k : Nat} {i : EntryIx} (h : q[k]? = some i) :
    position i q = k := by
  obtain ⟨hk, rfl⟩ := List.getElem?_eq_some_iff.mp h
  rw [position, List.findIdx_eq hk]
  refine ⟨by simp, fun j hj => ?_⟩
  simp only [beq_eq_false_iff_ne, ne_eq]
  exact fun heq => absurd ((hq.getElem_inj_iff).mp heq) (by omega)

theorem Entry.delivered_eq (status : Status) (e : Entry) :
    e.delivered status = if e.kind = .read ∧ status.delivers then e.received else 0 := by
  unfold Entry.delivered
  cases e.kind <;> simp

theorem queryItem_length (s : State) (i : EntryIx) (e : Entry) : (queryItem s i e).length = 6 := by
  unfold queryItem
  cases e.phase <;> rfl

@[simp] theorem laysOut_nil (payload : List Byte) : laysOut payload [] := by simp [laysOut]

@[simp] theorem laysOut_cons (payload bytes : List Byte) (at_ : Nat) (rest : List (Nat × List Byte)) :
    laysOut payload ((at_, bytes) :: rest) ↔ (payload.drop at_).take bytes.length = bytes ∧ laysOut payload rest := by
  simp [laysOut]

/-- Settles O21: the payload is written out by the entry's state, its places in queues being those of queues without repetition. -/
theorem queryReportsTheEntry : Obligations.QueryReportsTheEntry := by
  intro f tag s hs hf
  refine ⟨fun hbad => ?_, fun hle hnone => ?_, fun i e hnames => ?_⟩
  · exact exec_brings rfl hf (queryOp_badTag (tagOf_eq_none_iff.mpr hbad))
  · obtain ⟨k, hk, htag⟩ := tagged_none_of_not_names hle hnone
    exact exec_brings rfl hf (queryOp_notFound hk (by rw [received_tagged, htag]))
  · obtain ⟨k, hk, htag, he⟩ := hnames.tagged hs.1
    refine ⟨queryBytes (f.received s) i e, exec_brings rfl hf
      (queryOp_found hk (by rw [received_tagged, htag]) (by rw [received_entry, he])), ?_, ?_, ?_⟩
    · simp [queryBytes, queryItem_length]
    · simp [queryBytes]
    · have hq := hs.2.1
      cases hp : e.phase with
      | waiting =>
        intro j hj
        simp [queryBytes, queryItem, hp, Phase.byte, position_of_getElem? (hq.nodup (pl := .admission) rfl) hj]
      | ready =>
        intro j b hb hj
        have hnodup : b.issueQueue.Nodup := hq.nodup (pl := .issue e.node) (by simp [State.queueAt, hb])
        simp [queryBytes, queryItem, hp, Phase.byte, State.issueQueue, hb, position_of_getElem? hnodup hj]
      | issuing seq => simp [queryBytes, queryItem, hp, Phase.byte, wordBytes]
      | issued seq d fp a => simp [queryBytes, queryItem, hp, Phase.byte, wordBytes]
      | part seq d => simp [queryBytes, queryItem, hp, Phase.byte, wordBytes]
      | done status expiry =>
        intro j hj
        have hport : e.port = f.port := hnames.2.1
        have hnodup : (s.port f.port).completion.Nodup := hq.nodup (pl := .completion f.port) rfl
        simp [queryBytes, queryItem, hp, Phase.byte, hport, position_of_getElem? hnodup hj, Entry.delivered_eq,
          wordBytes]
        cases status <;> rfl

end Sys2Proof.Machine
end

section
/-! PROOFS. COLLECT, the hold expiry, PORT_STATUS and READ_EVENTS. -/

namespace Sys2Proof.Machine

/-! ## COLLECT -/

theorem collectHead_empty {p : Port} {s : State} (h : (s.port p).completion = []) : collectHead p s = (s, .bare .empty) := by
  simp [collectHead, h]

theorem collectHead_done {p : Port} {s : State} {i : EntryIx} {rest : List EntryIx} {e : Entry} {status : Status}
    {expiry : Option Time} (h : (s.port p).completion = i :: rest) (he : s.entry i = some e) (hd : e.phase = .done status expiry) :
    collectHead p s = (s.modPort p fun r => { r with collect := some ⟨i, false⟩ }, ⟨.ok, recordBytes s status e⟩) := by
  simp [collectHead, h, he, hd]

theorem recordBytes_eq (s : State) (status : Status) (e : Entry) :
    ∃ header, recordBytes s status e = header ++ loadBytes e.blocks (e.delivered status) s.buffer ∧ header.length = 9 :=
  ⟨_, rfl, rfl⟩

@[simp] theorem length_loadBytes (blocks : List BlockIx) (n : Nat) (m : List Host.Cell) : (loadBytes blocks n m).length = n := by
  simp [loadBytes]

/-- Byte `k` of a read's data stands in block `k / 16` of its list. -/
theorem loadBytes_getElem? {blocks : List BlockIx} {n k : Nat} {m : List Host.Cell} (hk : k < n) {block : BlockIx}
    (hb : blocks[k / 16]? = some block) :
    (loadBytes blocks n m)[k]? = some (bufferRead m (16 * block.val + k % 16)) := by
  have haddr : blockAddress blocks k = 16 * block.val + k % 16 := by
    simp [blockAddress, List.getD_eq_getElem?_getD, hb, Nat.mul_comm]
  simp [loadBytes, List.getElem?_range hk, haddr]

/-- Settles O22: the record's nine bytes come first, and behind them the delivered bytes in the order of the block list. -/
theorem collectDeliversTheHead : Obligations.CollectDeliversTheHead := by
  intro f s _ hf
  refine ⟨fun hempty => exec_brings rfl hf (collectHead_empty (by simp [hempty])), ?_⟩
  intro i rest e status expiry hq he hd
  refine ⟨recordBytes (f.received s) status e, exec_brings rfl hf
    (collectHead_done (by simpa using hq) (by simpa using he) hd), ?_, ?_, ?_⟩
  · obtain ⟨header, hrec, hlen⟩ := recordBytes_eq (f.received s) status e
    rw [← Entry.delivered_eq, hrec, List.length_append, hlen, length_loadBytes]
  · simp only [← Entry.delivered_eq]
    simp only [recordBytes, wordBytes, laysOut_cons, laysOut_nil]
    cases status <;> simp [Status.errorByte]
  · intro k hk block hb
    rw [← Entry.delivered_eq] at hk
    obtain ⟨header, hrec, hlen⟩ := recordBytes_eq (f.received s) status e
    rw [hrec, List.getElem?_append_right (by omega), hlen, Nat.add_sub_cancel_left, loadBytes_getElem? hk hb, received_buffer]

/-! ## The hold expiry -/

theorem freeEntry_done {i : EntryIx} {e : Entry} {s : State} (he : s.entry i = some e) (hd : e.phase.isDone = true) :
    freeEntry i s = (s.setEntry i none).modPort e.port fun r => { r with completion := removed i r.completion } := by
  unfold freeEntry
  rw [he]
  cases hp : e.phase with
  | done status expiry =>
    simp only [leaveQueue_done s hp]
    cases e.port <;> rfl
  | _ => simp [hp, Phase.isDone] at hd

theorem discard_done {i : EntryIx} {e : Entry} {s : State} (he : s.entry i = some e) (hd : e.phase.isDone = true) :
    discard e.port i s = raiseOn e.port .discarded ((s.setEntry i none).modPort e.port fun r =>
      { r with completion := removed i r.completion, discards := bump r.discards }) := by
  rw [discard, freeEntry_done he hd, State.modPort_modPort]

theorem expireHold_eq {p : Port} {i : EntryIx} {s : State} :
    expireHold p i s =
      if ∃ m ∈ (s.port p).collect, m.entry = i then s.modPort p fun r => { r with collect := some ⟨i, true⟩ }
      else discard p i s := by
  unfold expireHold
  cases h : (s.port p).collect with
  | none => simp
  | some m => simp

theorem holdReached_done {i : EntryIx} {e : Entry} {status : Status} {expiry : Option Time} {s : State} (he : s.entry i = some e)
    (hd : e.phase = .done status expiry) :
    holdReached i s = if ∃ due ∈ expiry, due ≤ s.now then retest s (expireHold e.port i s) else s := by
  unfold holdReached
  simp only [he, hd]
  cases expiry <;> simp

/-- A test of admission's head that follows a change of one port alone has no cause. -/
theorem retest_modPort (s : State) (p : Port) (f : PortRec → PortRec) :
    retest s (s.modPort p f) = s.modPort p f :=
  retest_of_no_cause (by simp)

/-- Settles O23: the expiry is deferred for the entry of the collect marker and discards every other. -/
theorem holdExpiryDiscards : Obligations.HoldExpiryDiscards := by
  intro t i e status expiry s hs hr he hd
  have hdone : e.phase.isDone = true := by simp [hd, Phase.isDone]
  have hadv : (s.advance t).entry i = some e := he
  have hrun : exec (.holdExpiry t i) s = .next (holdReached i (s.advance t)) := congrArg Host.Outcome.next (whenRunning_high hr)
  rw [hrun, holdReached_done hadv hd, expireHold_eq, State.advance_port]
  refine congrArg Host.Outcome.next (if_congr Iff.rfl ?_ rfl)
  split
  · exact retest_modPort ..
  · rw [discard_done hadv hdone]
    exact retest_advance ..

/-! ## PORT_STATUS -/

/-- Settles O25: the figures are those of the part with the frame counted. -/
theorem portStatusReports : Obligations.PortStatusReports := by
  intro f s hf
  refine ⟨portStatusBytes (f.received s) f.port, exec_brings rfl hf rfl, rfl, ?_⟩
  simp only [portStatusBytes, wordBytes, laysOut_cons, laysOut_nil]
  simp [received_port_self, State.occupancy]

/-! ## READ_EVENTS -/

/-- The place of an event in the event word. -/
def Event.index : Event → Nat
  | .delayed => 0
  | .discarded => 1
  | .overrun => 2
  | .unexpected => 3
  | .late => 4
  | .nodeChange => 5
  | .nodeSlow => 6
  | .lineError => 7
  | .hostFrameError => 8

theorem Event.weight_eq (ev : Event) : ev.weight = 2 ^ ev.index := by cases ev <;> rfl

theorem allEvents_index (ev : Event) : allEvents[ev.index]? = some ev := by cases ev <;> rfl

theorem allEvents_nodup : allEvents.Nodup := by decide

theorem getElem?_allEvents_iff {k : Nat} {ev : Event} : allEvents[k]? = some ev ↔ ev.index = k := by
  refine ⟨fun h => ?_, fun h => h ▸ allEvents_index ev⟩
  have hlt : ev.index < allEvents.length := by cases ev <;> decide
  exact (List.getElem?_inj hlt allEvents_nodup).mp ((allEvents_index ev).trans h.symm)

/-- The event word has a bit set exactly for the events of its set. -/
theorem eventWord_bit (set : List Event) (k : Nat) : (eventWord set).testBit k = true ↔ ∃ ev ∈ set, ev.index = k := by
  have sorted : ((allEvents.filter fun ev => set.contains ev).map Event.index).SortedLT := by
    have : (allEvents.map Event.index).Pairwise (· < ·) := by decide
    exact List.sortedLT_iff_pairwise.mpr (this.sublist (List.filter_sublist.map _))
  have sum : eventWord set = (((allEvents.filter fun ev => set.contains ev).map Event.index).map fun i => 2 ^ i).sum := by
    simp [eventWord, Function.comp_def, funext Event.weight_eq]
  rw [← Nat.mem_bitIndices, sum, Nat.bitIndices_sum_map_two_pow sorted]
  simp [mem_allEvents]

/-- The two bytes of a word, put together again. -/
theorem wordBytes_bit (n k : Nat) (hk : k < 16) : (byteOf (n / 256) ++ byteOf n : BitVec 16).getLsbD k = n.testBit k := by
  rw [BitVec.getLsbD_append]
  split
  · next h => rw [byteOf, BitVec.getLsbD_ofNat, decide_eq_true h, Bool.true_and]
  · next h =>
    have hdiv : n / 256 = n / 2 ^ 8 := rfl
    simp only [byteOf, BitVec.getLsbD_ofNat, hdiv, Nat.testBit_div_two_pow]
    simp [show k - 8 < 8 by omega, show k - 8 + 8 = k by omega]

/-- Settles O26: the word's bits are those of the port's events. -/
theorem readEventsReports : Obligations.ReadEventsReports := by
  intro f s hf
  refine ⟨_, _, exec_brings rfl hf rfl, fun k => ?_⟩
  rw [wordBytes_bit _ _ k.isLt, eventWord_bit]
  simp [received_port_self, getElem?_allEvents_iff]

end Sys2Proof.Machine
end

section
/-! PROOFS. The status commands of a node and of a line, and ECHO. -/

namespace Sys2Proof.Machine

/-! ## Fields of fixed length -/

theorem optByte_eq (o : Option Nat) : optByte o = byteOf (o.getD 0) := by cases o <;> rfl

theorem optWord_eq (o : Option Nat) : optWord o = wordBytes (o.getD 0) := by cases o <;> rfl

theorem ackStatus_eq (o : Option Ack) :
    ackStatus o =
      [byteOf ((o.map fun a => a.seq.val).getD 0), (o.map fun a => a.disposition.byte).getD 0]
        ++ wordBytes ((o.map Ack.nextOffset).getD 0) := by cases o <;> rfl

theorem byteOf_toNat (b : Byte) : byteOf b.toNat = b := by simp [byteOf]

/-! ## NODE_STATUS -/

theorem nodeStatusOp_bad {node : Byte} {clear : Bool} {s : State} (h : nodeOf node = none) :
    nodeStatusOp node clear s = (s, .bare .badParam) := by simp [nodeStatusOp, h]

theorem nodeStatusOp_good {node : Byte} {n : NodeIx} {clear : Bool} {s : State} (h : nodeOf node = some n) :
    nodeStatusOp node clear s =
      (if clear then s.modNode n fun r => { r with counters := .zero } else s, ⟨.ok, nodeStatusBytes s n⟩) := by
  simp [nodeStatusOp, h]

/-- The bits of a presence byte. -/
theorem presence_bits : ∀ a b c d e f g : Bool, ∀ k : Fin 8,
    (byteOf (1 + (if a then 2 else 0) + (if b then 4 else 0) + (if c then 8 else 0) + (if d then 16 else 0)
      + (if e then 32 else 0) + (if f then 64 else 0) + (if g then 128 else 0))).getLsbD k.val =
      [true, a, b, c, d, e, f, g].getD k.val false := by decide +kernel

theorem running_isSome (now : Time) (field : Option Time) : (running now field).isSome = field.any (now < ·) := by
  cases field with
  | none => rfl
  | some end_ => by_cases h : now < end_ <;> simp [running, Option.filter, h]

/-- The ticks until a time that runs, a time that has been reached showing as absent. -/
theorem running_ticks (now : Time) (field : Option Time) :
    ((running now field).map (ticksUntil now)).getD 0 = (field.map fun due => (due - now + 9) / 10).getD 0 := by
  cases field with
  | none => rfl
  | some end_ =>
    by_cases h : now < end_
    · simp [running, Option.filter, h, ticksUntil]
    · have hend : end_ - now = 0 := Nat.sub_eq_zero_of_le (not_lt.mp h)
      simp [running, Option.filter, h, hend]

theorem presenceByte_bits (now : Time) (b : BoundNode) (k : Fin 8) :
    (presenceByte now (some b)).getLsbD k.val =
      [true, b.advert.isSome, b.issuingSeq.isSome, b.pendingAck.isSome, b.earliestPoll.any (now < ·),
        b.refuseEnd.any (now < ·), b.health.time.isSome, b.lastGood.isSome].getD k.val false := by
  rw [← presence_bits, ← running_isSome, ← running_isSome]
  rfl

theorem received_usedSeqs (f : HostFrame) (s : State) (n : NodeIx) (b : BoundNode) :
    (f.received s).usedSeqs n b = s.usedSeqs n b := by simp [State.usedSeqs]

/-- The bytes of a bound node's status from byte 14 to byte 32, one by one. -/
theorem boundStatus_eq (s : State) (n : NodeIx) (b : BoundNode) :
    boundStatus s n b =
      [byteOf b.silence, byteOf b.timeouts, byteOf (s.usedSeqs n b).length, byteOf ((b.issuingSeq.map Fin.val).getD 0)]
        ++ wordBytes (seqWord b.abandoned)
        ++ ([byteOf ((b.pendingAck.map fun a => a.seq.val).getD 0), (b.pendingAck.map fun a => a.disposition.byte).getD 0]
          ++ wordBytes ((b.pendingAck.map Ack.nextOffset).getD 0))
        ++ [byteOf b.issueQueue.length]
        ++ wordBytes ((b.earliestPoll.map fun due => (due - s.now + 9) / 10).getD 0)
        ++ wordBytes ((b.refuseEnd.map fun due => (due - s.now + 9) / 10).getD 0)
        ++ wordBytes ((b.health.time.map fun due => (due - s.now + 9) / 10).getD 0)
        ++ wordBytes ((b.lastGood.map fun at_ => min ((s.now - at_) / 10) 65535).getD 0) := by
  unfold boundStatus
  rw [optByte_eq, ackStatus_eq, optWord_eq, optWord_eq, optWord_eq, optWord_eq, running_ticks, running_ticks, inUse_eq]
  rfl

/-- The payload for an ABSENT node: what is not a parameter, a counter or the node's number is 00h. -/
theorem nodeStatusBytes_absent {s : State} {n : NodeIx} (hb : s.bound n = none) :
    nodeStatusBytes s n =
      [byteOf n.val, 0, 0, 0, 0, byteOf (s.node n).params.window, 0, 0, 0, 0, 0, 0, 0, flagByte (s.node n).slow]
        ++ List.replicate 19 0x00 ++ nodeParamBytes (s.node n) := by
  have hnode : (s.node n).bound = none := hb
  simp [nodeStatusBytes, hnode, nodeStateByte, presenceByte, optByte_eq, optWord_eq, wordBytes, byteOf]

/-- The payload for a bound node. -/
theorem nodeStatusBytes_bound {s : State} {n : NodeIx} {b : BoundNode} (hb : s.bound n = some b) :
    nodeStatusBytes s n =
      [byteOf n.val, b.health.byte, presenceByte s.now (some b), byteOf b.line.val, byteOf b.drop.val,
        byteOf (s.node n).params.window, byteOf ((b.advert.map Advert.window).getD 0),
        byteOf ((b.advert.map (effectiveWindow (s.node n).params)).getD 0),
        byteOf ((b.advert.map fun a => a.cls.toNat).getD 0)]
        ++ wordBytes b.e ++ wordBytes b.s ++ [flagByte (s.node n).slow] ++ boundStatus s n b ++ nodeParamBytes (s.node n) := by
  have hnode : (s.node n).bound = some b := hb
  simp [nodeStatusBytes, hnode, nodeStateByte, optByte_eq, optWord_eq]

/-- Settles O27: each byte of the payload is written out, for an ABSENT node and for a bound one. -/
theorem nodeStatusReports : Obligations.NodeStatusReports := by
  intro f node s hf
  refine ⟨fun hbad => exec_brings rfl hf (nodeStatusOp_bad (nodeOf_eq_none_iff.mpr hbad)), fun n hn => ?_⟩
  have hnode : nodeOf node = some n := nodeOf_eq_some_iff.mpr hn
  have hbyte : byteOf n.val = node := by rw [hn, byteOf_toNat]
  refine ⟨nodeStatusBytes (f.received s) n, exec_brings rfl hf (nodeStatusOp_good hnode), ?_⟩
  cases hbound : s.bound n with
  | none =>
    rw [nodeStatusBytes_absent (by rw [received_bound, hbound])]
    refine ⟨rfl, ?_, fun _ => ?_, fun b hb => by simp at hb⟩
    · simp [nodeParamBytes, wordBytes, hbyte]
    · simp
  | some b =>
    rw [nodeStatusBytes_bound (by rw [received_bound, hbound]), boundStatus_eq]
    refine ⟨rfl, ?_, fun h => by simp at h, ?_⟩
    · simp [nodeParamBytes, wordBytes, hbyte]
    · intro b' hb'
      obtain rfl : b = b' := Option.some.inj hb'
      refine ⟨?_, ?_, ?_, ?_, ?_, ?_, ?_, ?_, ?_⟩
      · simp [wordBytes, received_usedSeqs]
      · cases hh : b.health with
        | probing due => cases due <;> simp [wordBytes, Health.byte, Health.time, byteOf]
        | _ => simp [wordBytes, Health.byte, Health.time, byteOf]
      · cases b.advert with
        | none => simp [wordBytes, byteOf]
        | some a => simp [wordBytes, effectiveWindow, byteOf_toNat]
      · cases b.issuingSeq with
        | none => simp [wordBytes, byteOf]
        | some seq => simp [wordBytes]
      · cases b.pendingAck with
        | none => simp [wordBytes, byteOf]
        | some a => simp [wordBytes]
      · intro k
        refine (presenceByte_bits (f.received s).now b k).trans ?_
        rw [received_now]
        cases b.health <;> rfl
      · cases b.earliestPoll with
        | none => simp [wordBytes, byteOf]
        | some due => simp [wordBytes]
      · cases b.refuseEnd with
        | none => simp [wordBytes, byteOf]
        | some due => simp [wordBytes]
      · cases b.lastGood with
        | none => simp [wordBytes, byteOf]
        | some at_ => simp [wordBytes]

end Sys2Proof.Machine
end

section
/-! PROOFS. LINE_STATUS, and ECHO with the formats of frames. -/

namespace Sys2Proof.Machine

/-! ## LINE_STATUS -/

theorem lineOf_eq_some_iff {b : Byte} {l : LineIx} : lineOf b = some l ↔ l.val = b.toNat := by
  unfold lineOf
  split
  · simp [Fin.ext_iff, eq_comm]
  · simp only [reduceCtorEq, false_iff]
    have := l.isLt
    omega

theorem lineOf_eq_none_iff {b : Byte} : lineOf b = none ↔ 3 < b.toNat := by
  simp [lineOf]
  omega

theorem lineStatusOp_bad {line : Byte} {clear : Bool} {s : State} (h : lineOf line = none) :
    lineStatusOp line clear s = (s, .bare .badParam) := by simp [lineStatusOp, h]

theorem lineStatusOp_good {line : Byte} {l : LineIx} {clear : Bool} {s : State} (h : lineOf line = some l) :
    lineStatusOp line clear s =
      (if clear then s.modLine l fun r => { r with counters := .zero } else s, ⟨.ok, lineStatusBytes s l⟩) := by
  simp [lineStatusOp, h]

theorem boundByte_of_bound {s : State} (hs : NodeLaw s) {n : NodeIx} {b : BoundNode} (hb : s.bound n = some b) :
    boundByte s b.line b.drop = byteOf n.val := by
  have hat : s.nodeAt b.line b.drop = some n := State.nodeAt_of_bound hb fun m c hm hl hd => hs.2.1 m n c hm b hb hl hd
  simp only [boundByte, hat]

theorem boundByte_of_none {s : State} {l : LineIx} {d : DropIx} (h : ∀ n b, s.bound n = some b → ¬(b.line = l ∧ b.drop = d)) :
    boundByte s l d = 0xFF := by
  cases hn : s.nodeAt l d with
  | none => simp [boundByte, hn]
  | some n =>
    obtain ⟨b, hb, hl, hd⟩ := State.nodeAt_bound hn
    exact absurd ⟨hl, hd⟩ (h n b hb)

theorem exchangeStatus_seven (o : Option Exchange) : ∃ b₀ b₁ b₂ b₃ b₄ b₅ b₆, exchangeStatus o = [b₀, b₁, b₂, b₃, b₄, b₅, b₆] := by
  cases o <;> exact ⟨_, _, _, _, _, _, _, rfl⟩

@[simp] theorem received_nodeAt (f : HostFrame) (s : State) (l : LineIx) (d : DropIx) :
    (f.received s).nodeAt l d = s.nodeAt l d := by simp [State.nodeAt]

/-- The payload, its drops and the current exchange written out. -/
theorem lineStatusBytes_eq (s : State) (l : LineIx) :
    lineStatusBytes s l =
      [byteOf l.val, (s.line l).state.byte, flagByte (s.lineEnabled l), flagByte (s.line l).state.disablePending,
        byteOf (s.line l).lastGranted.val, boundByte s l 0, boundByte s l 1, boundByte s l 2, boundByte s l 3]
        ++ exchangeStatus (s.line l).state.exchange
        ++ (wordBytes (s.line l).counters.exchanges ++ wordBytes (s.line l).counters.noAnswer
          ++ wordBytes (s.line l).counters.frameCheck ++ wordBytes (s.line l).counters.mismatch
          ++ wordBytes (s.line l).counters.failed) := by
  have hdrops : allDrops.map (boundByte s l) = [boundByte s l 0, boundByte s l 1, boundByte s l 2, boundByte s l 3] := rfl
  simp [lineStatusBytes, hdrops]

/-- The byte of a drop in the payload. -/
theorem lineStatusBytes_drop (s : State) (l : LineIx) (d : DropIx) :
    laysOut (lineStatusBytes s l) [(5 + d.val, [boundByte s l d])] := by
  rw [lineStatusBytes_eq]
  fin_cases d <;> simp

/-- Settles O28: the payload is written out, and a node is found at its position because no other holds it. -/
theorem lineStatusReports : Obligations.LineStatusReports := by
  intro f line s hs hf
  refine ⟨fun hbad => exec_brings rfl hf (lineStatusOp_bad (lineOf_eq_none_iff.mpr hbad)), fun l hl => ?_⟩
  have hline : lineOf line = some l := lineOf_eq_some_iff.mpr hl
  have hbyte : byteOf l.val = line := by rw [hl, byteOf_toNat]
  refine ⟨lineStatusBytes (f.received s) l, exec_brings rfl hf (lineStatusOp_good hline), ?_⟩
  obtain ⟨b₀, b₁, b₂, b₃, b₄, b₅, b₆, hx⟩ := exchangeStatus_seven ((f.received s).line l).state.exchange
  refine ⟨by rw [lineStatusBytes_eq, hx]; rfl, ?_, fun d => ⟨?_, fun hnone => ?_⟩, ?_⟩
  · rw [lineStatusBytes_eq, hx]
    simp [hbyte, wordBytes, flagByte]
  · rintro n b hb rfl rfl
    rw [← boundByte_of_bound (s := f.received s) (by simpa [NodeLaw] using hs.2.2.2.2.1) (by simpa using hb)]
    exact lineStatusBytes_drop _ _ _
  · rw [← boundByte_of_none (s := f.received s) (by simpa using hnone)]
    exact lineStatusBytes_drop _ _ _
  · cases hst : (s.line l).state with
    | disabled => simp [lineStatusBytes_eq, hst, exchangeStatus, LineState.byte, LineState.exchange, LineState.disablePending, flagByte]
    | idle => simp [lineStatusBytes_eq, hst, exchangeStatus, LineState.byte, LineState.exchange, LineState.disablePending, flagByte]
    | exchanging pend x =>
      simp [lineStatusBytes_eq, hst, exchangeStatus, LineState.byte, LineState.exchange, LineState.disablePending, flagByte]
      cases x.kind <;> rfl

/-! ## ECHO and the formats of frames -/

theorem crcShift_eq (r : Byte) : crcShift r = if r.getLsbD 7 then (r <<< 1) ^^^ 0x1D else r <<< 1 := by
  rw [crcShift, BitVec.msb_eq_getLsbD_last]

theorem crc8_eq (bytes : List Byte) :
    crc8 bytes =
      bytes.foldl
        (fun r b => (List.range 8).foldl (fun r _ => if r.getLsbD 7 then (r <<< 1) ^^^ 0x1D else r <<< 1) (r ^^^ b)) 0xFF := by
  have hstep : crcByte = fun r b =>
      (List.range 8).foldl (fun r _ => if r.getLsbD 7 then (r <<< 1) ^^^ 0x1D else r <<< 1) (r ^^^ b) := by
    funext r b
    simp only [← crcShift_eq]
    rfl
  rw [crc8, hstep]

theorem byteOf_mod (n : Nat) : BitVec.ofNat 8 (n % 256) = byteOf n := BitVec.eq_of_toNat_eq (by simp [byteOf])

theorem EntryFlags.byte_bit : ∀ sent excess repeated : Bool, ∀ k : Fin 8,
    (EntryFlags.byte ⟨sent, excess, repeated⟩).getLsbD k.val = [sent, excess, repeated].getD k.val false := by decide

theorem parseCommand_echo {flags : Byte} {payload : List Byte} (h : parseCommand 0x60 flags payload = .command (.echo payload)) :
    payload.length ≤ 64 := by
  by_contra hlen
  have : parseCommand 0x60 flags payload = .badLength := by
    show (if payload.length ≤ 64 then Asked.command (.echo payload) else .badLength) = .badLength
    exact if_neg hlen
  rw [h] at this
  simp at this

/-- Settles O29: the formats, each against the section that gives it. -/
theorem echoReturnsThePayload : Obligations.EchoReturnsThePayload := by
  refine ⟨?_, crc8_eq, ?_, rfl, fun _ => rfl, ?_, rfl, rfl, fun _ => rfl, rfl, seqWord_bit, ?_⟩
  · intro f payload s hf
    obtain ⟨hc, -, hp, -, -⟩ := id hf
    rw [hc] at hp
    exact ⟨exec_brings rfl hf rfl, parseCommand_echo hp⟩
  · intro p code payload s
    refine ⟨code.byte, by cases code <;> decide, ?_⟩
    simp only [byteOf_mod]
    rfl
  · rintro ⟨sent, excess, repeated⟩ k
    exact EntryFlags.byte_bit sent excess repeated k
  · intro ack
    exact ⟨rfl, by rw [byteOf_mod]; rfl⟩

end Sys2Proof.Machine
end

section
/-! PROOFS. The node commands, DEVICE_RESET, and what port B is refused. -/

namespace Sys2Proof.Machine

/-! ## NODE_ATTACH -/

theorem dropOf_eq_some_iff {b : Byte} {d : DropIx} : dropOf b = some d ↔ d.val = b.toNat := lineOf_eq_some_iff

theorem windowOf_of_range {b : Byte} (h : 1 ≤ b.toNat ∧ b.toNat ≤ 8) : windowOf b = some b.toNat := if_pos h

theorem modeOf_of_range {b : Byte} (h : b.toNat ≤ 1) : modeOf b = some (if b = 0 then .adaptive else .fixed) := by
  unfold modeOf
  by_cases h0 : b = 0
  · rw [if_pos h0, if_pos h0]
  · have h1 : b = 1 := by
      refine BitVec.eq_of_toNat_eq ?_
      have hne : b.toNat ≠ 0 := fun h => h0 (BitVec.eq_of_toNat_eq h)
      have hb : b.toNat = 1 := by omega
      rw [hb]
      rfl
    rw [if_neg h0, if_neg h0, if_pos h1]

theorem modeOf_eq_some {b : Byte} {m : Mode} (h : modeOf b = some m) : b.toNat ≤ 1 := by
  unfold modeOf at h
  split at h
  · next h0 => simp [h0]
  · split at h
    · next h1 => simp [h1]
    · cases h

theorem positionHeld_iff {s : State} {n : NodeIx} (hn : s.bound n = none) {l : LineIx} {d : DropIx} {line drop : Byte}
    (hl : l.val = line.toNat) (hd : d.val = drop.toNat) :
    positionHeld s n l d =
      allNodes.any fun m => (s.bound m).any fun b => b.line.val == line.toNat && b.drop.val == drop.toNat := by
  unfold positionHeld
  refine List.any_congr rfl fun m => ?_
  by_cases hm : m = n
  · simp [hm, hn]
  · have hline : ∀ b : BoundNode, (b.line == l) = (b.line.val == line.toNat) := fun b => by
      rw [← hl, Bool.eq_iff_iff]; simp [Fin.ext_iff]
    have hdrop : ∀ b : BoundNode, (b.drop == d) = (b.drop.val == drop.toNat) := fun b => by
      rw [← hd, Bool.eq_iff_iff]; simp [Fin.ext_iff]
    simp [hm, hline, hdrop]

/-- Whether an operand of NODE_ATTACH is out of its range. -/
def attachRanges (node line drop window mode : Byte) : Prop :=
  15 < node.toNat ∨ 3 < line.toNat ∨ 3 < drop.toNat ∨ window.toNat = 0 ∨ 8 < window.toNat ∨ 1 < mode.toNat

theorem nodeAttachOp_badRange {node line drop window mode : Byte} (h : attachRanges node line drop window mode) (s : State) :
    nodeAttachOp .a node line drop window mode s = (s, .bare .badParam) := by
  unfold nodeAttachOp
  rw [if_neg (by simp)]
  split
  · next n l d w m hn hl hd hw hm =>
    have h1 := nodeOf_eq_some_iff.mp hn
    have h2 := lineOf_eq_some_iff.mp hl
    have h3 := dropOf_eq_some_iff.mp hd
    have h4 := windowOf_eq_some hw
    have h5 := modeOf_eq_some hm
    unfold attachRanges at h
    omega
  · rfl

theorem nodeAttachOp_inRange {node line drop window mode : Byte} {n : NodeIx} {l : LineIx} {d : DropIx} (hn : n.val = node.toNat)
    (hl : l.val = line.toNat) (hd : d.val = drop.toNat) (hw : 1 ≤ window.toNat ∧ window.toNat ≤ 8) (hm : mode.toNat ≤ 1) (s : State) :
    nodeAttachOp .a node line drop window mode s =
      if (s.bound n).isSome then (s, .bare .nodeInUse)
      else if positionHeld s n l d then (s, .bare .dropInUse)
      else (attach n l d window.toNat (if mode = 0 then .adaptive else .fixed) s, .bare .ok) := by
  unfold nodeAttachOp
  rw [if_neg (by simp)]
  simp only [nodeOf_eq_some_iff.mpr hn, lineOf_eq_some_iff.mpr hl, dropOf_eq_some_iff.mpr hd, windowOf_of_range hw,
    modeOf_of_range hm]

/-- NODE_ATTACH on port A, as its checks decide. -/
theorem nodeAttachOp_spec (node line drop window mode : Byte) (s : State) :
    (∃ code, nodeAttachOp .a node line drop window mode s = (s, .bare code) ∧
      firstFailure (attachTests s node line drop window mode) = some code) ∨
    ∃ (n : NodeIx) (l : LineIx) (d : DropIx),
      nodeAttachOp .a node line drop window mode s =
        (attach n l d window.toNat (if mode = 0 then .adaptive else .fixed) s, .bare .ok) ∧
      firstFailure (attachTests s node line drop window mode) = none ∧
      n.val = node.toNat ∧ l.val = line.toNat ∧ d.val = drop.toNat := by
  have hranges : (15 < node.toNat || 3 < line.toNat || 3 < drop.toNat || window.toNat == 0 || 8 < window.toNat
      || 1 < mode.toNat) = true ↔ attachRanges node line drop window mode := by simp [attachRanges, or_assoc]
  simp only [attachTests, firstFailure_cons, firstFailure_nil]
  by_cases hbad : attachRanges node line drop window mode
  · exact .inl ⟨_, nodeAttachOp_badRange hbad s, if_pos (hranges.mpr hbad)⟩
  · rw [if_neg (mt hranges.mp hbad)]
    simp only [attachRanges, not_or, not_lt] at hbad
    obtain ⟨h1, h2, h3, h4, h5, h6⟩ := hbad
    let n : NodeIx := ⟨node.toNat, by omega⟩
    let l : LineIx := ⟨line.toNat, by omega⟩
    let d : DropIx := ⟨drop.toNat, by omega⟩
    rw [nodeAttachOp_inRange (n := n) (l := l) (d := d) rfl rfl rfl ⟨by omega, h5⟩ h6]
    have hused := any_node_iff (node := node) (n := n) rfl fun n => (s.bound n).isSome
    cases hb : s.bound n with
    | some b => exact .inl ⟨.nodeInUse, if_pos rfl, if_pos (hused.mpr (by rw [hb]; rfl))⟩
    | none =>
      rw [if_neg (by simp), if_neg (mt hused.mp (by simp [hb])), positionHeld_iff hb (line := line) (drop := drop) rfl rfl]
      split
      · exact .inl ⟨_, rfl, rfl⟩
      · exact .inr ⟨n, l, d, rfl, rfl, rfl, rfl, rfl⟩

theorem attachTests_received (f : HostFrame) (s : State) (node line drop window mode : Byte) :
    attachTests (f.received s) node line drop window mode = attachTests s node line drop window mode := by
  simp [attachTests]

/-- The port of a frame, in what its port is known to be. -/
theorem HostFrame.brings.exec_on {i : Instr} {f : HostFrame} {c : HostCommand} {s u : State} {reply : Reply} {p : Port}
    (h : f.brings c s) (hp : f.port = p) (hi : hostFrame i = some ⟨f.time, f.port, f.flags, c, f.check⟩)
    (hrun : runCommand p c (f.received s) = (u, reply)) : exec i s = .next (respond p reply u) := by
  subst hp
  exact exec_brings hi h hrun

/-- Settles O34: the checks decide, and a binding writes the whole record. -/
theorem nodeAttachBindsTheNode : Obligations.NodeAttachBindsTheNode := by
  intro f node line drop window mode s hport hf
  have hspec := nodeAttachOp_spec node line drop window mode (f.received s)
  rw [attachTests_received] at hspec
  refine ⟨fun code hcode => ?_, fun n l d hnone hn hl hd => ?_⟩
  · rcases hspec with ⟨code', hrun, hfail⟩ | ⟨n, l, d, hrun, hpass, -⟩
    · obtain rfl : code' = code := Option.some.inj (hfail.symm.trans hcode)
      exact hf.exec_on hport rfl hrun
    · simp [hpass] at hcode
  · rcases hspec with ⟨code', hrun, hfail⟩ | ⟨n', l', d', hrun, -, hn', hl', hd'⟩
    · simp [hfail] at hnone
    · obtain rfl : n' = n := Fin.ext (hn'.trans hn.symm)
      obtain rfl : l' = l := Fin.ext (hl'.trans hl.symm)
      obtain rfl : d' = d := Fin.ext (hd'.trans hd.symm)
      rw [hf.exec_on hport rfl hrun, attach_eq]
      simp only [received_node, attachedRec, freshNode, startHealth, received_now, received_lineEnabled]
      rfl

/-! ## NODE_DETACH and NODE_REPROBE -/

theorem finish_params (status : Status) (i : EntryIx) (s : State) (n : NodeIx) :
    ((finish status i s).node n).params = (s.node n).params := by
  cases he : s.entry i with
  | none => rw [finish_of_isDone (by simp [he])]
  | some e =>
    cases ho : e.phase.isOpen with
    | false => rw [finish_of_isDone (by simp [he, ← Phase.isOpen_eq_false_iff, ho])]
    | true => rw [finish_node he ho]

theorem finishAll_params (status : Status) (is : List EntryIx) (s : State) (n : NodeIx) :
    ((finishAll status is s).node n).params = (s.node n).params := by
  induction is generalizing s with
  | nil => rfl
  | cons i rest ih => rw [finishAll_cons, ih, finish_params]

theorem openInOrder_received (f : HostFrame) (s : State) (n : NodeIx) (b : BoundNode) :
    openInOrder (f.received s) n b = openInOrder s n b := by simp [openInOrder]

/-- Settles O35: the record of a detached node keeps its parameters, which no move to DONE changes. -/
theorem nodeDetachUnbindsTheNode : Obligations.NodeDetachUnbindsTheNode := by
  intro f node s hport hf
  refine ⟨fun hbad => hf.exec_on hport rfl ?_, fun n hn => ?_⟩
  · simp [runCommand, nodeDetachOp, nodeOf_eq_none_iff.mpr hbad, Reply.bare]
  · have hnode := nodeOf_eq_some_iff.mpr hn
    cases hb : s.bound n with
    | none => exact hf.exec_on hport rfl (by simp [runCommand, nodeDetachOp, hnode, hb, Reply.bare])
    | some b =>
      have hrun : runCommand .a (.nodeDetach node) (f.received s) = (detach n b (f.received s), .bare .ok) := by
        simp [runCommand, nodeDetachOp, hnode, hb]
      rw [hf.exec_on hport rfl hrun, detach_eq, detached, retest_received, openInOrder_received]
      simp only [State.modNode, NodeRec.detached, finishAll_params, received_node]
      rfl

theorem reprobed_received (f : HostFrame) (s : State) (n : NodeIx) :
    reprobed n (f.received s) =
      abandonExchanges (fun x => x.node == n && x.kind == .poll)
        ((finishAll .lost ((s.byStamp (s.liveEntries n)).filter fun i => s.holds i fun e => e.kind == .write)
          (returnToReady false n ((s.byStamp (s.liveEntries n)).filter fun i => s.holds i fun e => e.kind == .read)
            (f.received s))).modBound n fun b =>
          { b with health := .probing (some (max s.now f.time)), pendingAck := none, earliestPoll := none, refuseEnd := none }) := by
  simp [reprobed, withdrawn]
  rfl

/-- Settles O36: a bound node is withdrawn unless it has to stay OFFLINE. -/
theorem nodeReprobeWithdraws : Obligations.NodeReprobeWithdraws := by
  intro f node s hport hf
  refine ⟨fun hbad => hf.exec_on hport rfl ?_, fun n hn => ?_⟩
  · simp [runCommand, nodeReprobeOp, nodeOf_eq_none_iff.mpr hbad, Reply.bare]
  · have hnode := nodeOf_eq_some_iff.mpr hn
    cases hb : s.bound n with
    | none => exact hf.exec_on hport rfl (by simp [runCommand, nodeReprobeOp, hnode, hb, Reply.bare])
    | some b =>
      by_cases hoff : b.health = .offline ∧ s.lineEnabled b.line = false
      · refine (hf.exec_on hport rfl (reply := .bare .ok) (u := f.received s) ?_).trans ?_
        · simp [runCommand, nodeReprobeOp, hnode, hb, hoff]
        · simp only [if_pos hoff]
          rfl
      · refine (hf.exec_on hport rfl (reply := .bare .ok) (u := reprobe n b (f.received s)) ?_).trans ?_
        · simp only [runCommand, nodeReprobeOp, hnode, received_bound, hb, received_lineEnabled, if_neg hoff, if_neg (show Port.a ≠ .b by decide)]
        · simp only [if_neg hoff]
          rw [reprobe_eq, reprobed_received]
          cases b.health <;> rfl

end Sys2Proof.Machine
end

section
/-! PROOFS. DEVICE_RESET, and what port B is refused. -/

namespace Sys2Proof.Machine

/-! ## DEVICE_RESET -/

/-- Settles O31: the restart writes every record of the part, and a line stays where its enable has it. -/
theorem deviceResetRestartsThePart : Obligations.DeviceResetRestartsThePart := by
  intro f s hs hport hf
  have hrun : runCommand .a .deviceReset (f.received s) = (restartDevice (f.received s), ⟨.ok, []⟩) := by
    simp [runCommand, deviceResetOp, Reply.bare]
  refine ⟨restartDevice (f.received s), hf.exec_on hport rfl hrun, ?_⟩
  refine ⟨received_now f s, received_rstnLow f s, received_params f s, received_buffer f s, received_stamp f s,
    received_pending f s, restartDevice_entry _, rfl, restartDevice_port _, fun l => ?_, fun n => ?_⟩
  · have hlawful := (hs.lineLaw.1 l).2
    rw [restartDevice_line, received_line, received_lineEnabled]
    cases hst : (s.line l).state with
    | disabled =>
      rw [hst] at hlawful
      simp only [LineState.restarted, hlawful.1]
      rfl
    | idle =>
      rw [hst] at hlawful
      have hen : s.lineEnabled l = true := hlawful
      simp only [LineState.restarted, hen]
      rfl
    | exchanging pend x => rfl
  · rw [restartDevice_node, received_node, State.bound]
    obtain ⟨params, slow, counters, bound⟩ := s.node n
    cases bound with
    | none => rfl
    | some b =>
      simp only [NodeRec.restarted, BoundNode.restarted, freshNode, startHealth, received_lineEnabled, received_now]
      rfl

/-! ## Port B -/

/-- The numbers of the per-port parameters. -/
theorem ownNumber_number (q : Param) : ownNumber q.number = q.perPort := by
  cases q with
  | lineEnable l => fin_cases l <;> rfl
  | ceiling p => cases p <;> rfl
  | eventEnable ev => cases ev <;> rfl
  | node n k =>
    have hnum : 0x0100 ≤ (Param.node n k).number := by simp only [Param.number]; omega
    simp only [ownNumber, Param.perPort]
    generalize (Param.node n k).number = num at hnum
    simp
    omega
  | _ => rfl

theorem setParamOp_portB {num value : Nat} {q : Param} (hq : paramOf num = some q) (hown : q.perPort = false) (s : State) :
    setParamOp .b num value s = (s, .bare .notPermitted) := by
  simp [setParamOp, hq, hown]

/-- The commands that port B is refused, with what it is refused of SET_PARAM. -/
def refusedOnB (s : State) : HostCommand → Prop
  | .nodeAttach .. | .nodeDetach _ | .nodeReprobe _ | .deviceReset => True
  | .setParam num _ => (∃ v, (num.toNat, v) ∈ storedValues s .b) ∧ ownNumber num.toNat = false
  | _ => False

theorem runCommand_portB {s : State} {c : HostCommand} (h : refusedOnB s c) (u : State) :
    runCommand .b c u = (u, .bare .notPermitted) := by
  cases c with
  | setParam num value =>
    obtain ⟨⟨v, hv⟩, hown⟩ := h
    obtain ⟨q, hq, -⟩ := mem_storedValues_iff.mp hv
    rw [← paramOf_eq_some_iff.mp hq, ownNumber_number] at hown
    exact setParamOp_portB hq hown u
  | nodeAttach | nodeDetach | nodeReprobe | deviceReset => rfl
  | _ => exact h.elim

/-- Settles O33: each of these commands asks for its port first. -/
theorem portBIsNotPermitted : Obligations.PortBIsNotPermitted := by
  intro i f s hi hport hrec hint hc
  have hrefused : refusedOnB s f.command := by
    cases hcmd : f.command <;> simp only [hcmd] at hc <;> exact hc
  exact HostFrame.brings.exec_on ⟨rfl, hrec, hint⟩ hport hi (runCommand_portB hrefused _)

end Sys2Proof.Machine
end

section
/-! PROOFS. SET_PARAM: its tests, the value it writes, and what the write does at its owner. -/

namespace Sys2Proof.Machine

/-! ## The tests -/

theorem rangeOf_number (q : Param) : rangeOf q.number = q.range := by
  cases q with
  | lineEnable l => fin_cases l <;> rfl
  | ceiling p => cases p <;> rfl
  | eventEnable ev => cases ev <;> rfl
  | node n k =>
    have hk := k.index_lt
    have hnum : (Param.node n k).number = 0x0100 + 0x10 * n.val + k.index := rfl
    have hmod : (Param.node n k).number % 16 = k.index := by omega
    have hge : 0x0100 ≤ (Param.node n k).number := by omega
    unfold rangeOf
    rw [hmod]
    generalize (Param.node n k).number = num at hge
    repeat rw [if_neg (by omega)]
    cases k <;> rfl
  | _ => rfl

theorem known_iff (s : State) (p : Port) (num : Nat) :
    ((storedValues s p).any fun x => x.1 == num) = (paramOf num).isSome := by
  rw [Bool.eq_iff_iff, List.any_eq_true, Option.isSome_iff_exists]
  constructor
  · rintro ⟨⟨num', v⟩, hmem, heq⟩
    obtain rfl : num' = num := by simpa using heq
    obtain ⟨q, hq, -⟩ := mem_storedValues_iff.mp hmem
    exact ⟨q, hq⟩
  · rintro ⟨q, hq⟩
    exact ⟨_, mem_storedValues_iff.mpr ⟨q, hq, rfl⟩, by simp⟩

theorem number_beq (q q' : Param) : (q.number == q'.number) = (q == q') := by
  rw [Bool.eq_iff_iff, beq_iff_eq, beq_iff_eq]
  refine ⟨fun h => Option.some.inj ?_, congrArg _⟩
  exact (paramOf_eq_some_iff.mpr h).symm.trans (paramOf_eq_some_iff.mpr rfl)

theorem pairTest_eq (s : State) (v : Nat) (q : Param) :
    (q.number == 0x0003 && decide (s.params.dmax < v) || q.number == 0x0004 && decide (v < s.params.dmin)) =
      breaksPair s v q := by
  have hmin : (q.number == 0x0003) = (q == .dmin) := number_beq q .dmin
  have hmax : (q.number == 0x0004) = (q == .dmax) := number_beq q .dmax
  rw [hmin, hmax]
  cases q <;> simp [breaksPair]

/-- A WAITING entry needs the blocks of its length. -/
theorem waiting_need {s : State} (hs : TableLaw s) {i : EntryIx} {e : Entry} (he : s.entry i = some e) (hw : e.phase = .waiting) :
    e.need = (e.length + 15) / 16 := by
  obtain ⟨-, -, -, -, hphase⟩ := hs.1 i e he
  simp only [Entry.phaseLaw, hw] at hphase
  simp [Entry.need, hphase.1, blocksFor]

theorem commitmentTest_eq {s : State} (hs : TableLaw s) (v : Nat) (q : Param) :
    (q.number == 0x0001 && (decide (v < s.committedTotal) ||
      allEntries.any fun i => s.holds i fun e => e.phase == .waiting && decide (v < (e.length + 15) / 16))) =
      breaksCommitment s v q := by
  have hlimit : (q.number == 0x0001) = (q == .limit) := number_beq q .limit
  have hwait : (allEntries.any fun i => s.holds i fun e => e.phase == .waiting && decide (v < (e.length + 15) / 16)) =
      s.used.any fun e => e.phase == .waiting && decide (v < e.need) := by
    rw [Bool.eq_iff_iff]
    simp only [List.any_eq_true, List.mem_finRange, true_and, State.holds_iff, Bool.and_eq_true, beq_iff_eq, decide_eq_true_eq,
      State.used, List.mem_filterMap]
    constructor
    · rintro ⟨i, e, he, hw, hv⟩
      exact ⟨e, ⟨i, he⟩, hw, by rwa [waiting_need hs he hw]⟩
    · rintro ⟨e, ⟨i, he⟩, hw, hv⟩
      exact ⟨i, e, he, hw, by rwa [← waiting_need hs he hw]⟩
  rw [hwait, hlimit]
  cases q <;> simp [breaksCommitment]

theorem rangeTest_eq (v : Nat) (q : Param) :
    (decide (v < (rangeOf q.number).1) || decide ((rangeOf q.number).2 < v)) = !q.inRange v := by
  rw [rangeOf_number, Param.inRange, Bool.eq_iff_iff]
  simp only [Bool.or_eq_true, decide_eq_true_eq, Bool.not_eq_true', Bool.and_eq_false_iff, decide_eq_false_iff_not, not_le]

/-- SET_PARAM, as its tests decide. -/
theorem setParamOp_spec {s : State} (hs : TableLaw s) (p : Port) (num v : Nat) :
    (∃ code, setParamOp p num v s = (s, .bare code) ∧ firstFailure (setParamTests s p num v) = some code) ∨
    ∃ q, q.number = num ∧ setParamOp p num v s = (retest s (writeParam p v s q), .bare .ok) ∧
      firstFailure (setParamTests s p num v) = none ∧ q.inRange v = true ∧ (p = .a ∨ q.perPort = true) := by
  unfold setParamOp setParamTests
  simp only [firstFailure_cons, firstFailure_nil, known_iff]
  cases hq : paramOf num with
  | none => exact .inl ⟨.badParam, rfl, by simp⟩
  | some q =>
    obtain rfl := paramOf_eq_some_iff.mp hq
    simp only [rangeTest_eq, ownNumber_number, Option.isSome_some, Bool.and_true, Bool.not_true, pairTest_eq,
      commitmentTest_eq hs, Bool.false_eq_true, if_false, Bool.and_eq_true, beq_iff_eq, Bool.not_eq_true']
    by_cases hperm : p = .b ∧ q.perPort = false
    · exact .inl ⟨.notPermitted, if_pos hperm, if_pos hperm⟩
    rw [if_neg hperm, if_neg hperm]
    cases hrange : q.inRange v with
    | false => exact .inl ⟨.badParam, rfl, rfl⟩
    | true =>
      cases hpair : breaksPair s v q with
      | true => exact .inl ⟨.badParam, rfl, rfl⟩
      | false =>
        cases hcommit : breaksCommitment s v q with
        | true => exact .inl ⟨.limitConflict, rfl, rfl⟩
        | false =>
          refine .inr ⟨q, rfl, rfl, rfl, hrange, ?_⟩
          cases p with
          | a => exact .inl rfl
          | b => exact .inr (by simpa using hperm)

/-! ## The value -/

/-- Two states with the same parameters: the global ones, the ports' and the nodes'. -/
structure SameParams (u s : State) : Prop where
  params : u.params = s.params
  port : ∀ p, (u.port p).params = (s.port p).params
  node : ∀ n, (u.node n).params = (s.node n).params

theorem SameParams.refl (s : State) : SameParams s s := ⟨rfl, fun _ => rfl, fun _ => rfl⟩

theorem SameParams.trans {s u v : State} (h : SameParams v u) (h' : SameParams u s) : SameParams v s :=
  ⟨h.params.trans h'.params, fun p => (h.port p).trans (h'.port p), fun n => (h.node n).trans (h'.node n)⟩

theorem paramValue_same {u s : State} (h : SameParams u s) (p : Port) (q : Param) : paramValue u p q = paramValue s p q := by
  obtain ⟨hparams, hport, hnode⟩ := h
  cases q with
  | ceiling r => cases r <;> simp [paramValue, State.ceiling, hparams]
  | lineEnable l => simp [paramValue, State.lineEnabled, hparams]
  | _ => simp [paramValue, hparams, hport, hnode]

theorem sameParams_modLine (s : State) (l : LineIx) (f : LineRec → LineRec) : SameParams (s.modLine l f) s :=
  ⟨rfl, fun p => by simp, fun n => by simp⟩

theorem finishAll_port_params (status : Status) (is : List EntryIx) (s : State) (p : Port) :
    ((finishAll status is s).port p).params = (s.port p).params := by
  induction is generalizing s with
  | nil => rfl
  | cons i rest ih => rw [finishAll_cons, ih, finish_port_params]

theorem sameParams_goOffline (s : State) (n : NodeIx) : SameParams (goOffline n s) s := by
  rcases goOffline_cases n s with h | ⟨b, hb, hh⟩
  · rw [h]; exact .refl s
  · refine ⟨(State.fixed_eq (goOffline_fixed n s)).1, fun p => ?_, fun m => ?_⟩
    · rw [goOffline_eq hb hh, raiseBoth_port, abandonExchanges_port, State.modBound_port]
      exact finishAll_port_params ..
    · rw [goOffline_eq hb hh, raiseBoth_node, abandonExchanges_node, State.modBound_node_params]
      exact finishAll_params ..

theorem sameParams_disableNodes (s : State) (l : LineIx) : SameParams (disableNodes l s) s :=
  disableNodes_induction (P := fun u => SameParams u s) (fun u n _ hu _ _ => (sameParams_goOffline u n).trans hu) (.refl s)

theorem sameParams_grantHead (i : EntryIx) (e : Entry) (s : State) : SameParams (grantHead i e s) s := by
  refine ⟨grantHead_params i e s, fun p => by rw [grantHead_port], fun n => ?_⟩
  rw [grantHead_node]
  split <;> rfl

theorem sameParams_retest (before after : State) : SameParams (retest before after) after :=
  retest_induction (P := fun u => SameParams u after)
    (fun u i e hu _ _ _ _ => (sameParams_grantHead i e u).trans hu) before (.refl after)

theorem sameParams_enableLine (s : State) (l : LineIx) : SameParams (enableLine l s) s := by
  unfold enableLine
  split
  · exact sameParams_modLine ..
  · exact sameParams_modLine ..
  · exact .refl s

theorem sameParams_disableLine (s : State) (l : LineIx) : SameParams (disableLine l s) s := by
  unfold disableLine
  split
  · exact (sameParams_disableNodes _ l).trans (sameParams_modLine ..)
  · exact sameParams_modLine ..
  · exact .refl s

theorem flagNat_beq_one {v : Nat} (h : v ≤ 1) : flagNat (v == 1) = v := by
  interval_cases v <;> rfl

theorem mode_number {v : Nat} (h : v ≤ 1) : (modeOfNumber v).number = v := by
  interval_cases v <;> rfl

theorem Param.inRange_iff {q : Param} {v : Nat} : q.inRange v = true ↔ q.range.1 ≤ v ∧ v ≤ q.range.2 := by
  simp [Param.inRange]

theorem Param.le_one_of_flag {q : Param} {v : Nat} (h : q.inRange v = true) (hq : q.range = (0, 1)) : v ≤ 1 := by
  have := (Param.inRange_iff.mp h).2
  rwa [hq] at this

/-- A node parameter written is read back, and no other changes. -/
theorem NodeParams.get_put {k k' : NodeParam} {v : Nat} {r : NodeParams} (hv : k.range.1 ≤ v ∧ v ≤ k.range.2) :
    (r.put k v).get k' = if k' = k then v else r.get k' := by
  cases k <;> cases k' <;> simp [NodeParams.put, NodeParams.get]
  exact mode_number hv.2

/-- A line enable written is read back, and no other parameter changes. -/
theorem paramValue_writeLineEnable {v : Nat} (hv : v ≤ 1) (l : LineIx) (s : State) (p : Port) (q : Param) :
    paramValue (writeLineEnable l (v == 1) s) p q = if q = .lineEnable l then v else paramValue s p q := by
  have hwritten : ∀ set, paramValue (withEnable l set s) p q = if q = .lineEnable l then flagNat set else paramValue s p q := by
    intro set
    cases q with
    | lineEnable k =>
      simp only [paramValue, withEnable_lineEnabled, Param.lineEnable.injEq]
      split <;> rfl
    | ceiling r => cases r <;> simp [paramValue, withEnable, State.ceiling]
    | _ => simp [paramValue, withEnable] <;> rfl
  unfold writeLineEnable
  split
  · next hsame =>
    split
    · next hq =>
      subst hq
      rw [paramValue, hsame, flagNat_beq_one hv]
    · rfl
  · have hvalue := hwritten (v == 1)
    rw [flagNat_beq_one hv] at hvalue
    refine Eq.trans ?_ hvalue
    dsimp only
    split
    · next hset =>
      rw [hset]
      exact paramValue_same (sameParams_enableLine (withEnable l true s) l) p q
    · next hset =>
      rw [Bool.not_eq_true] at hset
      rw [hset]
      exact paramValue_same (sameParams_disableLine (withEnable l false s) l) p q

/-- The value of a port's own parameter in the port's record of them. -/
def portValue (r : PortParams) : Param → Option Nat
  | .holdTime => some r.holdTime
  | .queueAttention => some (flagNat r.queueAttention)
  | .eventEnable ev => some (flagNat (r.enables.contains ev))
  | _ => none

/-- A change of one port's parameters shows in that port's own values. -/
theorem paramValue_modPort_params (s : State) (p p' : Port) (q : Param) (f : PortParams → PortParams) :
    paramValue (s.modPort p fun r => { r with params := f r.params }) p' q =
      if p' = p then (portValue (f (s.port p).params) q).getD (paramValue s p' q) else paramValue s p' q := by
  by_cases hp : p' = p
  · subst hp
    cases q <;> simp [paramValue, portValue, State.modPort_port]
  · rw [if_neg hp]
    cases q <;> simp [paramValue, State.modPort_port, Ne.symm hp]

theorem portValue_getD (s : State) (p : Port) (q : Param) :
    (portValue (s.port p).params q).getD (paramValue s p q) = paramValue s p q := by cases q <;> rfl

/-- A port's own parameter written is read back by that port, and no other changes. -/
theorem paramValue_writeOwn {s : State} {p : Port} {q : Param} {v : Nat} {f : PortParams → PortParams} (hq : q.perPort = true)
    (hf : ∀ r q', portValue (f r) q' = if q' = q then some v else portValue r q') (p' : Port) (q' : Param) :
    paramValue (s.modPort p fun r => { r with params := f r.params }) p' q' =
      if q' = q ∧ (p' = p ∨ q.perPort = false) then v else paramValue s p' q' := by
  rw [paramValue_modPort_params]
  by_cases hp : p' = p
  · subst hp
    rw [if_pos rfl, hf]
    by_cases hq' : q' = q
    · simp [hq']
    · simp [hq', portValue_getD]
  · simp [hp, hq]

theorem contains_putEnable (ev ev' : Event) (set : Bool) (enables : List Event) :
    (putEnable ev set enables).contains ev' = if ev' = ev then set else enables.contains ev' := by
  unfold putEnable
  cases set with
  | true => by_cases h : ev' = ev <;> simp [withEvent, mem_allEvents, h]
  | false => by_cases h : ev' = ev <;> simp [withoutEvent, h]

/-- A parameter written on behalf of port `p` is read back by the ports that it is written for, and no other changes. -/
theorem paramValue_writeParam {p : Port} {v : Nat} {q : Param} (hv : q.inRange v = true) (s : State) (p' : Port) (q' : Param) :
    paramValue (writeParam p v s q) p' q' =
      if q' = q ∧ (p' = p ∨ q.perPort = false) then v else paramValue s p' q' := by
  cases q with
  | lineEnable l =>
    rw [writeParam, paramValue_writeLineEnable (Param.le_one_of_flag hv rfl)]
    simp [Param.perPort]
  | node n k =>
    have hk : k.range.1 ≤ v ∧ v ≤ k.range.2 := Param.inRange_iff.mp hv
    cases q' with
    | node m k' =>
      simp only [writeParam, paramValue, State.modNode_node, Param.perPort, Param.node.injEq, or_true, and_true]
      by_cases hm : n = m
      · subst hm
        simp [NodeParams.get_put hk]
      · simp [hm, Ne.symm hm]
    | ceiling r => cases r <;> simp [writeParam, paramValue, State.ceiling]
    | _ => simp [writeParam, paramValue]
  | holdTime =>
    refine paramValue_writeOwn (q := .holdTime) (f := fun r => { r with holdTime := v }) rfl (fun r q' => ?_) p' q'
    cases q' <;> simp [portValue]
  | queueAttention =>
    have hflag := flagNat_beq_one (Param.le_one_of_flag hv rfl)
    refine paramValue_writeOwn (q := .queueAttention) (f := fun r => { r with queueAttention := v == 1 }) rfl (fun r q' => ?_) p' q'
    cases q' <;> simp [portValue, hflag]
  | eventEnable ev =>
    have hflag := flagNat_beq_one (Param.le_one_of_flag hv rfl)
    refine paramValue_writeOwn (q := .eventEnable ev) (f := fun r => { r with enables := putEnable ev (v == 1) r.enables }) rfl
      (fun r q' => ?_) p' q'
    cases q' with
    | eventEnable ev' =>
      simp only [portValue, contains_putEnable, Param.eventEnable.injEq]
      split <;> simp [hflag]
    | _ => simp [portValue]
  | ceiling r =>
    cases r <;> cases q' with
    | ceiling r' => cases r' <;> simp [writeParam, paramValue, State.ceiling, Param.perPort]
    | _ => simp [writeParam, paramValue, State.lineEnabled] <;> rfl
  | _ =>
    cases q' with
    | ceiling r' => cases r' <;> simp [writeParam, paramValue, State.ceiling]
    | _ => simp [writeParam, paramValue, State.lineEnabled, Param.perPort] <;> rfl

/-! ## The command -/

theorem storedValues_received (f : HostFrame) (s : State) (p : Port) : storedValues (f.received s) p = storedValues s p := by
  simp [storedValues_eq_map]

theorem setParamTests_received (f : HostFrame) (s : State) (p : Port) (num v : Nat) :
    setParamTests (f.received s) p num v = setParamTests s p num v := by
  simp [setParamTests, storedValues_received]

theorem tableLaw_received (f : HostFrame) {s : State} (hs : TableLaw s) : TableLaw (f.received s) := by
  simpa only [TableLaw, received_entry] using hs

/-- SET_PARAM by a frame: the first failing test answers, or the parameter of the number is written. -/
theorem exec_setParam_cases {f : HostFrame} {num value : Word} {s : State} (hs : TableLaw s) (hf : f.brings (.setParam num value) s) :
    (∃ code, exec (.setParam f.time f.port f.flags num value f.check) s = .next (respond f.port ⟨code, []⟩ (f.received s)) ∧
      firstFailure (setParamTests s f.port num.toNat value.toNat) = some code) ∨
    ∃ q, q.number = num.toNat ∧ q.inRange value.toNat = true ∧
      firstFailure (setParamTests s f.port num.toNat value.toNat) = none ∧
      exec (.setParam f.time f.port f.flags num value f.check) s =
        .next (respond f.port ⟨.ok, []⟩ (retest s (writeParam f.port value.toNat (f.received s) q))) := by
  have hspec := setParamOp_spec (tableLaw_received f hs) f.port num.toNat value.toNat
  rw [setParamTests_received] at hspec
  rcases hspec with ⟨code, hrun, hfail⟩ | ⟨q, hq, hrun, hpass, hrange, -⟩
  · exact .inl ⟨code, exec_brings rfl hf hrun, hfail⟩
  · rw [retest_received] at hrun
    exact .inr ⟨q, hq, hrange, hpass, exec_brings rfl hf hrun⟩

/-- Settles O37: the store lists every parameter once, and a write is read back at its own number alone. -/
theorem setParamDecidesInOrder : Obligations.SetParamDecidesInOrder := by
  intro f num value s hs hf
  rcases exec_setParam_cases hs.1 hf with ⟨code', hexec, hfail⟩ | ⟨q, hq, hrange, hpass, hexec⟩
  · refine ⟨fun code hcode => ?_, fun hnone => by simp [hfail] at hnone⟩
    obtain rfl : code' = code := Option.some.inj (hfail.symm.trans hcode)
    exact hexec
  · refine ⟨fun code hcode => by simp [hpass] at hcode, fun _ => ⟨_, hexec, fun p => ?_⟩⟩
    have hvalue : ∀ q', paramValue (retest s (writeParam f.port value.toNat (f.received s) q)) p q' =
        if q' = q ∧ (p = f.port ∨ q.perPort = false) then value.toNat else paramValue s p q' := fun q' => by
      rw [paramValue_same (sameParams_retest ..), paramValue_writeParam hrange, paramValue_received]
    rw [storedValues_eq_map, storedValues_eq_map, ← hq, ownNumber_number]
    simp only [hvalue]
    split
    · next hown =>
      rw [List.map_map]
      refine List.map_congr_left fun q' _ => ?_
      have hnumber : q'.number = q.number ↔ q' = q := by simpa using number_beq q' q
      simp only [Function.comp_apply, hown, and_true, hnumber]
      split <;> rfl
    · next hown => simp [hown]

end Sys2Proof.Machine
end

section
/-! PROOFS. What an accepted SET_PARAM does beside the value. -/

namespace Sys2Proof.Machine

/-- A test of admission's head after a change that its cause does not read. -/
theorem retest_of_same {s u : State} (hc : u.committedTotal = s.committedTotal) (hp : u.params.limit = s.params.limit)
    (ha : u.admission = s.admission) : retest s u = u :=
  retest_of_no_cause (by simp [hc, hp, ha])

theorem toNat_beq_one (w : Word) : (w.toNat == 1) = (w == 1) := by
  rw [Bool.eq_iff_iff, beq_iff_eq, beq_iff_eq]
  exact ⟨fun h => BitVec.eq_of_toNat_eq h, fun h => by rw [h]; rfl⟩

theorem beq_zero_eq {w : Word} (h : w.toNat ≤ 1) : (w == 0) = !(w == 1) := by
  rw [← toNat_beq_one, Bool.eq_iff_iff, beq_iff_eq, Bool.not_eq_true', beq_eq_false_iff_ne]
  refine ⟨fun h => by simp [h], fun hne => BitVec.eq_of_toNat_eq ?_⟩
  change w.toNat = 0
  omega

/-- A line enable written to a part whose lines agree with their enables. -/
theorem retest_writeLineEnable {s u : State} {l : LineIx} {set : Bool} (hl : LineLaw s) (hline : u.line l = s.line l)
    (hen : u.lineEnabled l = s.lineEnabled l) (hc : u.committedTotal = s.committedTotal) (hp : u.params = s.params)
    (ha : u.admission = s.admission) :
    retest s (writeLineEnable l set u) =
      if s.lineEnabled l = set then u
      else
        match (s.line l).state with
        | .idle => retest s (disableNodes l ((withEnable l set u).modLine l fun r => { r with state := .disabled }))
        | .disabled => (withEnable l set u).modLine l fun r => { r with state := .idle }
        | .exchanging _ x => (withEnable l set u).modLine l fun r => { r with state := .exchanging (!set) x } := by
  have hstate := (hl.1 l).2
  have hsame : ∀ f, retest s ((withEnable l set u).modLine l f) = (withEnable l set u).modLine l f := fun f =>
    retest_of_same ((State.modLine_committedTotal ..).trans hc) (show u.params.limit = s.params.limit by rw [hp]) ha
  have hwritten : ((withEnable l set u).line l).state = (s.line l).state := congrArg LineRec.state hline
  unfold writeLineEnable
  rw [hen]
  split
  · exact retest_of_same hc (by rw [hp]) ha
  · next hne =>
    cases set with
    | true =>
      have hdown : s.lineEnabled l = false := by simpa using hne
      refine (congrArg (retest s) (show _ = enableLine l (withEnable l true u) from rfl)).trans ?_
      unfold enableLine
      rw [hwritten]
      cases hst : (s.line l).state with
      | idle =>
        rw [hst] at hstate
        exact absurd (hdown.symm.trans hstate) (by simp)
      | disabled => exact hsame _
      | exchanging pend x => exact hsame _
    | false =>
      have hup : s.lineEnabled l = true := by simpa using hne
      refine (congrArg (retest s) (show _ = disableLine l (withEnable l false u) from rfl)).trans ?_
      unfold disableLine
      rw [hwritten]
      cases hst : (s.line l).state with
      | idle => rfl
      | disabled =>
        rw [hst] at hstate
        exact absurd (hup.symm.trans hstate.1) (by simp)
      | exchanging pend x => exact hsame _

/-- A parameter that is neither the limit nor a line enable, written: nothing moves but the parameters. -/
theorem writeParam_rest {q : Param} (hlimit : q ≠ .limit) (hline : ∀ l, q ≠ .lineEnable l) (p : Port) (v : Nat) (s : State) :
    (let u := writeParam p v s q
    u.now = s.now ∧ u.rstnLow = s.rstnLow ∧ u.stamp = s.stamp ∧ u.pending = s.pending ∧ u.table = s.table ∧
      u.admission = s.admission ∧ u.lines = s.lines ∧ u.buffer = s.buffer ∧ u.params.limit = s.params.limit ∧
      (∀ n, u.node n = { s.node n with params := (u.node n).params }) ∧
      ∀ p', u.port p' = { s.port p' with params := (u.port p').params }) := by
  cases q with
  | limit => exact absurd rfl hlimit
  | lineEnable l => exact absurd rfl (hline l)
  | ceiling r => cases r <;> exact ⟨rfl, rfl, rfl, rfl, rfl, rfl, rfl, rfl, rfl, fun _ => rfl, fun p' => by cases p' <;> rfl⟩
  | node n k =>
    refine ⟨rfl, rfl, rfl, rfl, rfl, rfl, rfl, rfl, rfl, fun m => ?_, fun p' => by cases p' <;> rfl⟩
    rw [writeParam, State.modNode_node]
    split
    · next h => subst h; rfl
    · rfl
  | holdTime | queueAttention | eventEnable =>
    refine ⟨by simp [writeParam], by simp [writeParam], by simp [writeParam], by simp [writeParam], by simp [writeParam],
      by simp [writeParam], by simp [writeParam], by simp [writeParam], by simp [writeParam], fun m => by simp [writeParam],
      fun p' => ?_⟩
    rw [writeParam, State.modPort_port]
    split
    · next h => subst h; rfl
    · rfl
  | _ => exact ⟨rfl, rfl, rfl, rfl, rfl, rfl, rfl, rfl, rfl, fun _ => rfl, fun p' => by cases p' <;> rfl⟩

/-- Settles O38: the number names the parameter, whose owner's action is one of three. -/
theorem setParamActsAtItsOwner : Obligations.SetParamActsAtItsOwner := by
  intro f num value s hs hf hpass
  rcases exec_setParam_cases hs.1 hf with ⟨code, -, hfail⟩ | ⟨q, hq, hrange, -, hexec⟩
  · simp [hpass] at hfail
  have hname : ∀ q', q'.number = num.toNat → q = q' := fun q' h => by
    have := number_beq q q'
    rw [hq, h] at this
    simpa using this
  refine ⟨_, hexec, fun hlimit => ?_, fun l hline => ?_, fun hnoline hnolimit => ?_⟩
  · obtain rfl := hname .limit hlimit.symm
    simp only [writeParam, received_params]
  · obtain rfl := hname (.lineEnable l) hline.symm
    have hone : value.toNat ≤ 1 := Param.le_one_of_flag hrange rfl
    rw [writeParam, toNat_beq_one, retest_writeLineEnable hs.lineLaw (by simp) (by simp) (by simp) (by simp) (by simp)]
    rw [beq_zero_eq hone]
    cases (s.line l).state <;> simp only [withEnable, received_params] <;> rfl
  · have hrest := writeParam_rest (q := q) (by rintro rfl; exact hnolimit hq.symm) (by rintro l rfl; exact hnoline l hq.symm)
      f.port value.toNat (f.received s)
    obtain ⟨hnow, hrstn, hstamp, hpending, htable, hadm, hlines, hbuffer, hlim, hnode, hport⟩ := hrest
    have hcommitted : (writeParam f.port value.toNat (f.received s) q).committedTotal = s.committedTotal := by
      simp [State.committedTotal, State.used, State.entry, htable]
    rw [retest_of_same hcommitted (by rw [hlim, received_params]) (by rw [hadm, received_admission])]
    exact ⟨by rw [hnow, received_now], by rw [hrstn, received_rstnLow], by rw [hstamp, received_stamp],
      by rw [hpending, received_pending], by rw [htable, received_table], by rw [hadm, received_admission],
      by rw [hlines, received_lines], by rw [hbuffer, received_buffer], fun n => by rw [hnode, received_node], hport⟩

end Sys2Proof.Machine
end

section
/-! PROOFS. The end of a window: the collect and the READ_EVENTS in it. -/

namespace Sys2Proof.Machine

/-! ## The receiver and chip select -/

theorem PortLaw.lawful {s : State} (h : PortLaw s) (p : Port) : (s.port p).lawful := by
  cases p
  · exact h.1
  · exact h.2.1

theorem PortLaw.csLow {s : State} (h : PortLaw s) (hr : s.rstnLow = false) {p : Port} (hx : (s.port p).receiver ≠ .idle) :
    (s.port p).csLow = true := by
  have hi : (s.port p).receiver = .idle ↔ (s.port p).csLow = false := by
    cases p
    · exact (h.2.2 hr).1
    · exact (h.2.2 hr).2
  exact Bool.not_eq_false _ ▸ mt hi.mpr hx

/-! ## What ends with the window -/

@[simp] theorem retest_modPort_before (s u : State) (p : Port) (f : PortRec → PortRec) : retest (s.modPort p f) u = retest s u := by
  simp [retest, callsForTest]

theorem State.modPort_setEntry (s : State) (p : Port) (f : PortRec → PortRec) (i : EntryIx) (o : Option Entry) :
    (s.modPort p f).setEntry i o = (s.setEntry i o).modPort p f := by cases p <;> rfl

/-- The record of a port whose window ends. -/
def PortRec.closed (complete : Bool) (r : PortRec) : PortRec :=
  { r with
    csLow := false
    receiver := .idle
    collect := none
    readMarker := none
    events := if complete then r.events.filter fun ev => !(r.readMarker.getD []).contains ev else r.events }

theorem PortRec.eventsSettled_eq (complete : Bool) (r : PortRec) :
    r.eventsSettled complete =
      { r with
        readMarker := none
        events := if complete then r.events.filter fun ev => !(r.readMarker.getD []).contains ev else r.events } := by
  unfold PortRec.eventsSettled
  cases hm : r.readMarker with
  | none =>
    obtain ⟨_, _, _, _, _, _, _, _, _⟩ := r
    cases hm
    simp
  | some marked => rfl

/-- A window that ends with no collect in it. -/
theorem endWindow_unmarked {p : Port} {s : State} (h : (s.port p).collect = none) (complete : Bool) :
    endWindow p complete (s.modPort p fun r => { r with csLow := false, receiver := .idle }) = s.modPort p (PortRec.closed complete) := by
  rw [endWindow, settleCollect_of_unmarked (by simpa [State.modPort_port] using h), settleEvents_eq, retest_modPort,
    State.modPort_modPort]
  refine State.modPort_congr ?_
  rw [PortRec.eventsSettled_eq, PortRec.closed, h]

/-- The queue that the marked entry heads, without it. -/
theorem removed_head {i : EntryIx} {q : List EntryIx} (hq : q.Nodup) (hh : q.head? = some i) : removed i q = q.tail := by
  obtain ⟨rest, rfl⟩ := List.head?_eq_some_iff.mp hh
  have hrest : i ∉ rest := (List.nodup_cons.mp hq).1
  simp only [removed, List.filter_cons, bne_self_eq_false, Bool.false_eq_true, if_false, List.tail_cons]
  refine List.filter_eq_self.mpr fun j hj => ?_
  simp only [bne_iff_ne, ne_eq]
  rintro rfl
  exact hrest hj

section
variable {s : State} {p : Port} {m : CollectMarker} {e : Entry} (he : s.entry m.entry = some e) (hp : e.port = p)
  (hd : e.phase.isDone = true) (hm : (s.port p).collect = some m)
include he hp hd hm

/-- A complete window frees the marked entry. -/
theorem endWindow_complete :
    endWindow p true (s.modPort p fun r => { r with csLow := false, receiver := .idle }) =
      retest s (((s.modPort p (PortRec.closed true)).setEntry m.entry none).modPort p fun r =>
        { r with completion := removed m.entry r.completion }) := by
  subst hp
  rw [endWindow, settleCollect_of_marked (by simpa [State.modPort_port] using hm), settleMarked, if_pos rfl,
    freeEntry_done (e := e) (by simpa using he) hd, settleEvents_eq, retest_modPort_before]
  simp only [State.modPort_setEntry, State.modPort_modPort]
  refine congrArg _ (State.modPort_congr ?_)
  rw [PortRec.eventsSettled_eq]
  rfl

omit hd in
/-- An interrupted window keeps the marked entry, which is REPEATED. -/
theorem endWindow_interrupted (hdef : m.deferred = false) :
    endWindow p false (s.modPort p fun r => { r with csLow := false, receiver := .idle }) =
      (s.modPort p (PortRec.closed false)).modEntry m.entry Entry.repeatedOnce := by
  subst hp
  have hsame : ∀ f : PortRec → PortRec, (s.modPort e.port f).modEntry m.entry Entry.repeatedOnce =
      (s.setEntry m.entry (some e.repeatedOnce)).modPort e.port f := fun f => by
    rw [State.modEntry, State.modPort_entry, he, State.modPort_setEntry]; rfl
  rw [endWindow, settleCollect_of_marked (by simpa [State.modPort_port] using hm), settleMarked, if_neg (by simp),
    if_neg (by simp [hdef]), settleEvents_eq, State.modPort_modPort, hsame, hsame, State.modPort_modPort, retest_modPort_before]
  have hcommitted : (s.setEntry m.entry (some e.repeatedOnce)).committedTotal = s.committedTotal :=
    committedTotal_of_committedAt fun i => by
      by_cases hi : m.entry = i
      · subst hi
        simp [State.committedAt, he, Entry.repeatedOnce]
      · simp [State.committedAt, State.setEntry_entry, hi]
  rw [retest_of_same (by simpa using hcommitted) (by simp) (by simp)]
  refine State.modPort_congr ?_
  rw [PortRec.eventsSettled_eq]
  rfl

/-- An interrupted window whose marked entry has expired meanwhile discards it. -/
theorem endWindow_deferred (hdef : m.deferred = true) :
    endWindow p false (s.modPort p fun r => { r with csLow := false, receiver := .idle }) =
      retest s (((s.modPort p (PortRec.closed false)).setEntry m.entry none).modPort p fun r =>
        { r with
          completion := removed m.entry r.completion
          discards := bump r.discards
          events := withEvent .discarded r.events }) := by
  subst hp
  have hsame : ∀ f : PortRec → PortRec, (s.modPort e.port f).modEntry m.entry Entry.repeatedOnce =
      (s.setEntry m.entry (some e.repeatedOnce)).modPort e.port f := fun f => by
    rw [State.modEntry, State.modPort_entry, he, State.modPort_setEntry]; rfl
  rw [endWindow, settleCollect_of_marked (by simpa [State.modPort_port] using hm), settleMarked, if_neg (by simp),
    if_pos hdef, State.modPort_modPort, hsame]
  let unmarked := (s.setEntry m.entry (some e.repeatedOnce)).modPort e.port fun r =>
    { r with csLow := false, receiver := .idle, collect := none }
  have hentry : unmarked.entry m.entry = some e.repeatedOnce := by simp [unmarked]
  have hdiscard : discard e.port m.entry unmarked = raiseOn e.port .discarded ((unmarked.setEntry m.entry none).modPort e.port fun r =>
      { r with completion := removed m.entry r.completion, discards := bump r.discards }) := discard_done (e := e.repeatedOnce) hentry hd
  rw [hdiscard, settleEvents_eq, retest_modPort_before]
  simp only [unmarked, raiseOn, State.modPort_setEntry, State.setEntry_setEntry, State.modPort_modPort]
  refine congrArg _ (State.modPort_congr ?_)
  rw [PortRec.eventsSettled_eq]
  rfl

end

/-- Settles O17: the response was shifted out or it was not, and the collect stood or it did not. -/
theorem windowEndSettles : Obligations.WindowEndSettles := by
  intro t p s hs hr
  have hclose : ∀ complete, (s.port p).receiver ≠ .idle → (∀ q, windowCloses p q (s.port p).receiver = endWindow p complete q) →
      exec (.chipSelectRise t p) s = .next
        (endWindow p complete ((s.advance t).modPort p fun r => { r with csLow := false, receiver := .idle })) := by
    intro complete hne hcl
    have hcs := hs.portLaw.csLow hr hne
    rw [exec_chipSelectRise, selectRises_of_csLow (by exact hr) (by simpa using hcs), State.advance_port, hcl]
  have hmarked : ∀ m, (s.port p).collect = some m → (∃ e, s.entry m.entry = some e ∧ e.port = p ∧ e.phase.isDone = true) ∧
      removed m.entry (s.port p).completion = (s.port p).completion.tail := by
    intro m hm
    have hhead : (s.port p).completion.head? = some m.entry := ((hs.portLaw.lawful p).2.2.2.2.2.2.2.2.2 m hm).2
    exact ⟨marked_done hs.core.queue (hs.body p) hm, removed_head (hs.core.queue.nodup (pl := .completion p) rfl) hhead⟩
  constructor
  · intro htrail
    rw [hclose true (by simp [htrail]) (by simp [htrail, windowCloses])]
    refine congrArg Host.Outcome.next ?_
    cases hc : (s.port p).collect with
    | none => exact endWindow_unmarked (by simpa using hc) true
    | some m =>
      obtain ⟨⟨e, he, hp, hd⟩, hq⟩ := hmarked m hc
      rw [endWindow_complete (e := e) (by simpa using he) hp hd (by simpa using hc), retest_advance]
      refine congrArg _ (State.modPort_congr ?_)
      simp [State.modPort_port, PortRec.closed, hq]
  · intro hex hne
    have hcl : ∀ q, windowCloses p q (s.port p).receiver = endWindow p false q := by
      intro q
      cases hrec : (s.port p).receiver with
      | turnaround => rfl
      | response => rfl
      | trailing => exact absurd hrec hne
      | _ => simp [hrec, Receiver.hasExecuted] at hex
    rw [hclose false (by rintro h; simp [h, Receiver.hasExecuted] at hex) hcl]
    refine congrArg Host.Outcome.next ?_
    cases hc : (s.port p).collect with
    | none => exact endWindow_unmarked (by simpa using hc) false
    | some m =>
      obtain ⟨⟨e, he, hp, hd⟩, hq⟩ := hmarked m hc
      cases hdef : m.deferred with
      | false =>
        rw [endWindow_interrupted (e := e) (by simpa using he) hp (by simpa using hc) hdef]
        simp only [hdef]
        rfl
      | true =>
        rw [endWindow_deferred (e := e) (by simpa using he) hp hd (by simpa using hc) hdef, retest_advance]
        simp only [hdef]
        refine congrArg _ (State.modPort_congr ?_)
        simp [State.modPort_port, PortRec.closed, hq]

end Sys2Proof.Machine
end

section
/-! PROOFS. How a frame is judged, clocked byte by byte and as a whole. -/

namespace Sys2Proof.Machine

/-! ## A command's frame spells the command -/

/-- Whether a command carries the clear flag of its frame's flags byte. -/
def HostCommand.agrees (flags : Byte) : HostCommand → Prop
  | .portStatus clear | .nodeStatus _ clear | .lineStatus _ clear => clear = clearFlag flags
  | _ => True

theorem hostFrame_agrees {i : Instr} {f : HostFrame} (h : hostFrame i = some f) : f.command.agrees f.flags := by
  cases i <;> simp only [hostFrame, reduceCtorEq, Option.some.injEq] at h <;> subst h <;> simp only [HostCommand.agrees]

/-- The frame of a command spells that command, unless it is an ECHO that is too long. -/
theorem parseCommand_frame {c : HostCommand} {flags : Byte} (h : c.agrees flags) :
    parseCommand c.code flags c.payload = .command c ∨ parseCommand c.code flags c.payload = .badLength := by
  have word : ∀ w : Word, wordOf (byteOf (w.toNat / 256)) (byteOf w.toNat) = w := wordOf_wordBytes
  cases c with
  | submitRead tag node addr len =>
    refine .inl (Eq.trans (b := .command (.submitRead tag node (wordOf _ _) (wordOf _ _))) rfl ?_)
    rw [word, word]
  | submitWrite tag node addr payload =>
    refine .inl (Eq.trans (b := .command (.submitWrite tag node (wordOf _ _) payload)) rfl ?_)
    rw [word]
  | setParam number value =>
    refine .inl (Eq.trans (b := .command (.setParam (wordOf _ _) (wordOf _ _))) rfl ?_)
    rw [word, word]
  | getParam number =>
    refine .inl (Eq.trans (b := .command (.getParam (wordOf _ _))) rfl ?_)
    rw [word]
  | portStatus clear =>
    obtain rfl : clear = clearFlag flags := h
    exact .inl rfl
  | nodeStatus node clear =>
    obtain rfl : clear = clearFlag flags := h
    exact .inl rfl
  | lineStatus line clear =>
    obtain rfl : clear = clearFlag flags := h
    exact .inl rfl
  | echo payload =>
    by_cases hlen : payload.length ≤ 64
    · exact .inl (if_pos hlen)
    · exact .inr (if_neg hlen)
  | _ => exact .inl rfl

theorem parseCommand_unknown {code flags : Byte} {payload : List Byte} (h : code ∉ commandCodes) :
    parseCommand code flags payload = .unknownCode := by
  simp only [commandCodes, List.mem_cons, List.not_mem_nil, or_false, not_or] at h
  obtain ⟨h₁, h₂, h₃, h₄, h₅, h₆, h₇, h₈, h₉, h₁₀, h₁₁, h₁₂, h₁₃, h₁₄, h₁₅, h₁₆, h₁₇⟩ := h
  unfold parseCommand
  rw [if_neg h₁, if_neg h₂, if_neg h₃, if_neg h₄, if_neg h₅, if_neg h₆, if_neg h₇, if_neg h₈, if_neg h₉, if_neg h₁₀,
    if_neg h₁₁, if_neg h₁₂, if_neg h₁₃, if_neg h₁₄, if_neg h₁₅, if_neg h₁₆, if_neg h₁₇]

theorem parseCommand_badLength {code flags : Byte} {least most : Nat} {payload : List Byte}
    (h : (code, least, most) ∈ acceptedLengths) (hlen : payload.length ≤ 68) (hout : payload.length < least ∨ most < payload.length) :
    parseCommand code flags payload = .badLength := by
  simp only [acceptedLengths, List.mem_cons, List.not_mem_nil, or_false, Prod.mk.injEq] at h
  by_cases hecho : code = 0x60
  · subst hecho
    obtain ⟨rfl, rfl⟩ : least = 0 ∧ most = 64 := by simpa using h
    have hlong : ¬payload.length ≤ 64 := by omega
    exact if_neg hlong
  · rcases h with ⟨rfl, rfl, rfl⟩ | ⟨rfl, rfl, rfl⟩ | ⟨rfl, rfl, rfl⟩ | ⟨rfl, rfl, rfl⟩ | ⟨rfl, rfl, rfl⟩ | ⟨rfl, rfl, rfl⟩ |
      ⟨rfl, rfl, rfl⟩ | ⟨rfl, rfl, rfl⟩ | ⟨rfl, rfl, rfl⟩ | ⟨rfl, rfl, rfl⟩ | ⟨rfl, rfl, rfl⟩ | ⟨rfl, rfl, rfl⟩ |
      ⟨rfl, rfl, rfl⟩ | ⟨rfl, rfl, rfl⟩ | ⟨rfl, rfl, rfl⟩ | ⟨rfl, rfl, rfl⟩ | ⟨rfl, rfl, rfl⟩
    case inr.inr.inr.inr.inr.inr.inr.inr.inr.inr.inr.inr.inr.inr.inr.inr => exact absurd rfl hecho
    all_goals
      rcases payload with _ | ⟨_, _ | ⟨_, _ | ⟨_, _ | ⟨_, _ | ⟨_, _ | ⟨_, _ | ⟨_, rest⟩⟩⟩⟩⟩⟩⟩ <;>
        first
        | rfl
        | (simp only [List.length_cons, List.length_nil] at hout hlen; omega)

/-! ## Refused frames -/

theorem refuseFrame_counted (p : Port) (code : Code) (s : State) :
    refuseFrame p code (countAnswered p s) = s.modPort p fun r =>
      { r with
        receiver := .turnaround 0 (Reply.frame ⟨code, []⟩)
        counters := { r.counters with answered := bump r.counters.answered, errors := bump r.counters.errors } } := by
  simp only [refuseFrame, respond, countAnswered, State.modPort_modPort]
  rfl

/-- A frame that a port can receive is judged. -/
theorem exec_receivable {i : Instr} {f : HostFrame} {s : State} (hi : hostFrame i = some f) (h : f.receivable s) :
    exec i s = .next (judgeCommand f.port f.flags f.command f.check (runCommand f.port f.command)
      (framed f.port f.flags f.command (s.advance f.time))) := by
  obtain ⟨hr, hrec⟩ := h
  rw [exec_hostFrame hi, hostCommand, if_neg (by simp [hr]), State.advance_port]
  rcases hrec with hidle | ⟨soFar, hcmd, hpre⟩
  · rw [hidle]
  · rw [hcmd]
    exact congrArg _ (if_pos (List.isPrefixOf_iff_prefix.mpr hpre))

theorem judgeCommand_refused {f : HostFrame} (hagree : f.command.agrees f.flags) (h : ¬f.intact) (run : State → State × Reply) (s : State) :
    judgeCommand f.port f.flags f.command f.check run s = refuseFrame f.port .frameError (countAnswered f.port s) := by
  unfold judgeCommand
  dsimp only
  by_cases hlen : maxDeclared < f.command.payload.length
  · rw [if_pos hlen]
  rw [if_neg hlen]
  by_cases hcheck : f.check = crc8 (f.command.bytes f.flags)
  · rw [if_neg (by simpa using hcheck)]
    rcases parseCommand_frame hagree with hp | hp
    · exact absurd ⟨hp, not_lt.mp hlen, hcheck⟩ h
    · rw [if_pos hp]
  · rw [if_pos hcheck]

theorem toNat_wordOf (hi lo : Byte) : (wordOf hi lo).toNat = hi.toNat * 256 + lo.toNat := by
  have h1 := hi.isLt
  have h2 := lo.isLt
  simp only [wordOf, BitVec.toNat_ofNat]
  omega

theorem declaredLength_header (code flags hi lo : Byte) (payload : List Byte) :
    declaredLength ([code, flags, hi, lo] ++ payload) = hi.toNat * 256 + lo.toNat := toNat_wordOf hi lo

/-- Settles O13: the judgement asks its four questions in turn. -/
theorem badFramesAreRefused : Obligations.BadFramesAreRefused := by
  constructor
  · intro i f s hi hrec hbad
    rw [exec_receivable hi hrec, judgeCommand_refused (hostFrame_agrees hi) hbad, refuseFrame_counted, framed, State.modPort_modPort]
  · intro t p code flags hi lo byte payload s hr hcmd
    have hdeclared := declaredLength_header code flags hi lo payload
    have hjudge : bytesBeforeCheck ([code, flags, hi, lo] ++ payload) ≤ 4 + payload.length →
        exec (.byteClocked t p byte) s =
          .next (judgeFrame p (hi.toNat * 256 + lo.toNat) ([code, flags, hi, lo] ++ payload) byte (s.advance t)) := by
      intro hbefore
      have hlength : ([code, flags, hi, lo] ++ payload).length = 4 + payload.length := List.length_append
      rw [exec_byteClocked, clockByte_command (by exact hr) (by rw [State.advance_port, hcmd]),
        commandByte_check _ _ (by omega) (by omega), hdeclared]
    refine ⟨fun hlong hnil => ?_, fun hle hlen => ⟨fun hbad => ?_, fun hgood hcode => ?_, fun least most hmem hgood hout => ?_⟩⟩
    · subst hnil
      have hmax : maxDeclared < hi.toNat * 256 + lo.toNat := hlong
      rw [hjudge (by rw [bytesBeforeCheck, hdeclared, if_pos hmax]; rfl), judgeFrame, if_pos hmax, refuseFrame_counted]
    all_goals
      rw [hjudge (by rw [bytesBeforeCheck, hdeclared, if_neg (by simpa [maxDeclared] using hle), hlen]), judgeFrame,
        if_neg (by simpa [maxDeclared] using hle)]
    · rw [if_pos hbad, refuseFrame_counted]
    · rw [if_neg (by simpa using hgood)]
      have hp : parseCommand code flags payload = .unknownCode := parseCommand_unknown hcode
      simp [hp, refuseFrame_counted]
    · rw [if_neg (by simpa using hgood)]
      have hp : parseCommand code flags payload = .badLength := parseCommand_badLength hmem (hlen ▸ hle) (hlen ▸ hout)
      simp [hp, refuseFrame_counted]

end Sys2Proof.Machine
end

section
/-! PROOFS. A frame clocked byte by byte comes to its row. -/

namespace Sys2Proof.Machine

theorem execAll_append (first rest : List Instr) {s u : State} (h : execAll first s = .next u) :
    execAll (first ++ rest) s = execAll rest u := by
  induction first generalizing s with
  | nil => cases h; rfl
  | cons i first ih =>
    rw [List.cons_append, execAll]
    rw [execAll] at h
    cases he : exec i s with
    | next v =>
      simp only [he] at h ⊢
      exact ih h
    | fault r => simp [he] at h
    | refused r => simp [he] at h

theorem execAll_cons {i : Instr} (rest : List Instr) {s u : State} (h : exec i s = .next u) :
    execAll (i :: rest) s = execAll rest u := by
  simp only [execAll, h]

theorem execAll_single {i : Instr} {s u : State} (h : exec i s = .next u) : execAll [i] s = .next u := by
  rw [execAll_cons [] h]
  rfl

/-! ## The bytes of a frame -/

theorem HostCommand.bytes_eq (flags : Byte) (c : HostCommand) :
    c.bytes flags = [c.code, flags] ++ wordBytes c.payload.length ++ if 68 < c.payload.length then [] else c.payload := by
  unfold HostCommand.bytes frameBytes
  dsimp only
  by_cases h : 68 < c.payload.length
  · rw [if_pos (show maxDeclared < _ from h), if_pos h, List.append_nil]
  · rw [if_neg (show ¬maxDeclared < _ from h), if_neg h]

theorem HostCommand.bytes_declared {flags : Byte} {c : HostCommand} (h : c.payload.length < 65536) :
    declaredLength (c.bytes flags) = c.payload.length := by
  rw [HostCommand.bytes_eq]
  refine (toNat_wordOf (byteOf (c.payload.length / 256)) (byteOf c.payload.length)).trans ?_
  simp only [byteOf, BitVec.toNat_ofNat]
  omega

/-- The bytes of a frame so far declare the length of the frame once its header is whole. -/
theorem declaredLength_of_prefix {d bytes : List Byte} (h : d <+: bytes) (h4 : 4 ≤ d.length) : declaredLength d = declaredLength bytes := by
  obtain ⟨rest, rfl⟩ := h
  have hget : ∀ k, k < 4 → (d ++ rest).getD k 0 = d.getD k 0 := fun k hk => by
    simp [List.getD_eq_getElem?_getD, List.getElem?_append_left (show k < d.length by omega)]
  rw [declaredLength, declaredLength, hget 2 (by omega), hget 3 (by omega)]

theorem HostCommand.bytes_length (flags : Byte) (c : HostCommand) :
    (c.bytes flags).length = 4 + if 68 < c.payload.length then 0 else c.payload.length := by
  rw [HostCommand.bytes_eq, List.length_append]
  split <;> rfl

/-- A byte of a frame in any place but the check byte's is kept. -/
theorem HostCommand.kept_prefix {flags : Byte} {c : HostCommand} (hlen : c.payload.length < 65536) {d : List Byte}
    (hd : d <+: c.bytes flags) (hlt : d.length < (c.bytes flags).length) :
    d.length < 4 ∨ declaredLength d ≤ 68 ∧ d.length < 4 + declaredLength d := by
  rw [HostCommand.bytes_length] at hlt
  by_cases h4 : d.length < 4
  · exact .inl h4
  · rw [declaredLength_of_prefix hd (by omega), HostCommand.bytes_declared hlen]
    split at hlt <;> omega

theorem HostCommand.check_place {flags : Byte} {c : HostCommand} (hlen : c.payload.length < 65536) :
    bytesBeforeCheck (c.bytes flags) = (c.bytes flags).length := by
  rw [bytesBeforeCheck, HostCommand.bytes_declared hlen, HostCommand.bytes_length, maxDeclared]
  split <;> rfl

/-! ## Clocking -/

theorem State.advance_again {s : State} {t : Time} (h : t ≤ s.now) : s.advance t = s := by
  simp only [State.advance, max_eq_left h]

/-- The bytes of a frame before its check byte, clocked one after the other. -/
theorem execAll_clocked {flags : Byte} {c : HostCommand} (hlen : c.payload.length < 65536) {t : Time} {p : Port} (rest : List Byte) :
    ∀ {d : List Byte} {s : State}, d ++ rest = c.bytes flags → s.rstnLow = false → t ≤ s.now →
      (s.port p).receiver = .command d →
      execAll (rest.map fun b => .byteClocked t p b) s = .next (s.modPort p fun r => { r with receiver := .command (c.bytes flags) }) := by
  induction rest with
  | nil =>
    intro d s hd _ _ hrec
    rw [List.append_nil] at hd
    subst hd
    refine congrArg Host.Outcome.next (State.modPort_self ?_).symm
    rw [← hrec]
  | cons b rest ih =>
    intro d s hd hr ht hrec
    have hpre : d <+: c.bytes flags := ⟨b :: rest, hd⟩
    have hlt : d.length < (c.bytes flags).length := by rw [← hd, List.length_append, List.length_cons]; omega
    have hbyte : exec (.byteClocked t p b) s = .next (s.modPort p fun r => { r with receiver := .command (d ++ [b]) }) := by
      rw [exec_byteClocked, State.advance_again ht, clockByte_command hr hrec,
        commandByte_kept_byte b s (HostCommand.kept_prefix hlen hpre hlt)]
    rw [List.map_cons, execAll_cons _ hbyte, ih (d := d ++ [b]) (by simpa using hd) (by simpa using hr) (by simpa using ht)
      (by simp [State.modPort_port]), State.modPort_modPort]

/-- The check byte of a command's frame is judged as its row is. -/
theorem judgeFrame_command {flags : Byte} {c : HostCommand} (hagree : c.agrees flags) (hlen : c.payload.length < 65536) (p : Port)
    (check : Byte) (s : State) :
    judgeFrame p (declaredLength (c.bytes flags)) (c.bytes flags) check s = judgeCommand p flags c check (runCommand p c) s := by
  unfold judgeFrame judgeCommand
  rw [HostCommand.bytes_declared hlen]
  dsimp only
  by_cases hlong : maxDeclared < c.payload.length
  · rw [if_pos hlong, if_pos hlong]
  · rw [if_neg hlong, if_neg hlong]
    by_cases hcheck : check ≠ crc8 (c.bytes flags)
    · rw [if_pos hcheck, if_pos hcheck]
    · rw [if_neg hcheck, if_neg hcheck]
      have hbytes : c.bytes flags = [c.code, flags] ++ wordBytes c.payload.length ++ c.payload := by
        rw [HostCommand.bytes_eq, if_neg (show ¬68 < c.payload.length from hlong)]
      have hparse : parseCommand ((c.bytes flags).getD 0 0) ((c.bytes flags).getD 1 0) ((c.bytes flags).drop 4) =
          parseCommand c.code flags c.payload := by rw [hbytes]; rfl
      rw [hparse]
      rcases parseCommand_frame hagree with hp | hp
      · rw [hp, if_neg (by simp)]
      · rw [hp, if_pos rfl]

/-- Settles O12: each byte before the check byte is kept, and the check byte has the frame judged as the row has it. -/
theorem byteByByteIsTheCommand : Obligations.ByteByByteIsTheCommand := by
  intro i f s hi hlen hr hidle hcs
  have hfall : exec (.chipSelectFall f.time f.port) s = .next ((s.advance f.time).modPort f.port fun r =>
      { r with csLow := true, receiver := .command [] }) := by
    rw [exec_chipSelectFall, selectFalls_high (by exact hr) (by simpa using hcs)]
  have hbytes := execAll_clocked (flags := f.flags) hlen (t := f.time) (p := f.port) f.bytes (d := [])
    (s := (s.advance f.time).modPort f.port fun r => { r with csLow := true, receiver := .command [] }) rfl (by simpa using hr)
    (by simp [State.advance]) (by simp [State.modPort_port])
  rw [State.modPort_modPort] at hbytes
  rw [exec_receivable hi ⟨hr, .inl hidle⟩, HostFrame.clocking, execAll_cons _ hfall, List.map_append,
    execAll_append _ _ hbytes]
  refine execAll_single ?_
  have hframed : ((s.advance f.time).modPort f.port fun r => { r with csLow := true, receiver := .command (f.command.bytes f.flags) }) =
      framed f.port f.flags f.command (s.advance f.time) := rfl
  rw [hframed, exec_byteClocked, State.advance_again (by simp [framed, State.advance]),
    clockByte_command (soFar := f.command.bytes f.flags) (by simpa [framed] using hr)
      (by simp [framed, State.modPort_port]),
    commandByte_check _ _ (by rw [HostCommand.bytes_length]; omega)
      (HostCommand.check_place hlen).le]
  exact congrArg _ (judgeFrame_command (hostFrame_agrees hi) hlen f.port f.check _)

end Sys2Proof.Machine
end

section
/-! PROOFS. The room in the read buffer: under a commitment limit of 96 or less every live READ finds its blocks. -/

namespace Sys2Proof.Machine

/-- What the blocks of the part number: the sum over the entries (R37). -/
theorem occupied_length (s : State) : s.occupied.length = ∑ i, (s.blocksAt i).length := by
  rw [occupied_eq_flatMap, List.length_flatMap, Fin.sum_univ_def]

theorem TableLaw.blocksAt_le {s : State} (hs : TableLaw s) (i : EntryIx) : (s.blocksAt i).length ≤ s.committedAt i := by
  unfold State.blocksAt State.committedAt
  cases he : s.entry i with
  | none => simp
  | some e => simpa using (hs.1 i e he).blocks_le

/-- The blocks that stand in no block list are what the buffer's 96 have left (R37). -/
theorem freeBlocks_length {s : State} (h : s.occupied.Nodup) : s.freeBlocks.length + s.occupied.length = 96 := by
  have hfree : s.freeBlocks.length = (s.occupied.toFinsetᶜ).card := by
    have hnd : s.freeBlocks.Nodup := (List.nodup_finRange _).filter _
    rw [← List.toFinset_card_of_nodup hnd]
    congr 1
    ext c
    simp [State.freeBlocks, allBlocks]
  rw [hfree, ← List.toFinset_card_of_nodup h, Finset.card_compl_add_card]
  rfl

/-- The occupied blocks of the part are at most its committed total (R42). -/
theorem occupied_le_committedTotal {s : State} (hs : TableLaw s) : s.occupied.length ≤ s.committedTotal := by
  rw [occupied_length, committedTotal_eq_sum]
  exact Finset.sum_le_sum fun i _ => hs.blocksAt_le i

/-- The blocks of a live READ with those that its next segment brings are within its commitment (R38). -/
theorem Entry.lawful.grown_le {e : Entry} (h : e.lawful) (hk : e.kind = .read) (hl : e.phase.liveSeq.isSome)
    (data : List Byte) : e.blocks.length + newBlocks e data ≤ e.committed := by
  obtain ⟨hr, hb, -, -, hp⟩ := h
  have hc : e.committed = blocksFor e.length := by
    cases hphase : e.phase <;> simp_all [Entry.phaseLaw, Entry.need]
  have hmono : blocksFor (e.received + (takenBytes e data).length) ≤ blocksFor e.length :=
    Nat.div_le_div_right (by simp only [takenBytes, List.length_take]; omega)
  have hgrows : blocksFor e.received ≤ blocksFor (e.received + (takenBytes e data).length) :=
    Nat.div_le_div_right (by omega)
  rw [hb, hc, newBlocks]
  omega

/-- The occupied blocks with room kept for one entry's commitment are at most the committed total. -/
theorem occupied_add_committedAt {s : State} (hs : TableLaw s) (i : EntryIx) :
    s.occupied.length + s.committedAt i ≤ s.committedTotal + (s.blocksAt i).length := by
  have hrest := Finset.sum_le_sum fun j (_ : j ∈ Finset.univ.erase i) => hs.blocksAt_le j
  rw [occupied_length, committedTotal_eq_sum, ← Finset.add_sum_erase _ (fun j => (s.blocksAt j).length) (Finset.mem_univ i),
    ← Finset.add_sum_erase _ s.committedAt (Finset.mem_univ i)]
  omega

/-- Settles O11: block lists are within the commitments, entry by entry, and the free pool is what 96 leaves. -/
theorem noHoldWithinTheBuffer : Obligations.NoHoldWithinTheBuffer := by
  intro s i e data hs hlimit he hk hl
  refine ⟨occupied_le_committedTotal hs.core.table, ?_⟩
  have hgrown := (hs.core.table.1 i e he).grown_le hk hl data
  have hroom := occupied_add_committedAt hs.core.table i
  have hfree := freeBlocks_length hs.core.buffer.1
  have htotal := hs.core.total
  simp only [State.committedAt, State.blocksAt, he, Option.map_some, Option.getD_some] at hroom
  omega

end Sys2Proof.Machine
end

section
/-! PROOFS. The answers as commands of the table: the frame each comes in, when it is valid, and when it has no effect. -/

namespace Sys2Proof.Machine

/-! ## What a row says -/

theorem seqOf_eq_some_iff {b : Byte} {q : Seq} : seqOf b = some q ↔ b.toNat = q.val := by
  unfold seqOf
  split <;> simp [Fin.ext_iff]
  omega

theorem seqOf_isSome_iff {b : Byte} : (∃ q, seqOf b = some q) ↔ b.toNat ≤ 15 := by
  unfold seqOf
  split <;> simp <;> omega

theorem toNat_byteOf {n : Nat} (h : n < 256) : (byteOf n).toNat = n := by
  simp only [byteOf, BitVec.toNat_ofNat]
  omega

theorem seqOf_byteOf (q : Seq) : seqOf (byteOf q.val) = some q := seqOf_eq_some_iff.mpr (toNat_byteOf (by omega))

theorem seqOf_eq_some_iff_eq {b : Byte} {q : Seq} : seqOf b = some q ↔ b = byteOf q.val := by
  constructor
  · intro h
    exact BitVec.eq_of_toNat_eq (by rw [seqOf_eq_some_iff.mp h, toNat_byteOf (by omega)])
  · rintro rfl
    exact seqOf_byteOf q

theorem seqsOf_cons (b : Byte) (rest : List Byte) :
    seqsOf (b :: rest) = (seqOf b).bind fun q => (seqsOf rest).map (q :: ·) := by
  rw [seqsOf]
  cases seqOf b <;> cases seqsOf rest <;> rfl

/-- A list of seq bytes is read exactly when each is in range. -/
theorem seqsOf_eq_some_iff {bs : List Byte} {qs : List Seq} : seqsOf bs = some qs ↔ bs = qs.map fun q => byteOf q.val := by
  induction bs generalizing qs with
  | nil => cases qs <;> simp [seqsOf]
  | cons b rest ih => cases qs <;> simp [seqsOf_cons, Option.bind_eq_some_iff, seqOf_eq_some_iff_eq, ih]

theorem seqsOf_isSome_iff {bs : List Byte} : (∃ qs, seqsOf bs = some qs) ↔ ∀ b ∈ bs, b.toNat ≤ 15 := by
  induction bs with
  | nil => simp [seqsOf]
  | cons b rest ih =>
    rw [List.forall_mem_cons, ← ih, ← seqOf_isSome_iff, seqsOf_cons]
    cases seqOf b <;> cases seqsOf rest <;> simp

theorem byteOf_seq_injective : Function.Injective fun q : Seq => byteOf q.val := fun p q h => by
  have := congrArg seqOf h
  simpa only [seqOf_byteOf, Option.some.injEq] using this

theorem reasonOf_isSome_iff {b : Byte} : (∃ r, reasonOf b = some r) ↔ 1 ≤ b.toNat ∧ b.toNat ≤ 3 := by
  unfold reasonOf
  repeat' split
  · simp_all
  · simp_all
  · simp_all
  · simp only [reduceCtorEq, exists_false, false_iff, not_and, not_le]
    rename_i h1 h2 h3
    rw [← BitVec.toNat_inj] at h1 h2 h3
    simp at h1 h2 h3
    omega

/-- The drop byte and the fields of an answer of the six rows. -/
def answerRow : Instr → Option (Byte × NodeAnswer)
  | .ident _ _ drop cls window => some (drop, .ident cls window)
  | .accept _ _ drop seq => some (drop, .accept seq)
  | .refuse _ _ drop seq reason => some (drop, .refuse seq reason)
  | .segment _ _ drop seq flags offset data => some (drop, .segment seq flags offset data)
  | .pending _ _ drop seqs => some (drop, .pending seqs)
  | .fault _ _ drop seq code => some (drop, .fault seq code)
  | _ => none

/-- The bytes an answer row brings are those of its answer's frame. -/
theorem frameOf_eq (c : Instr) : frameOf c = (answerRow c).map fun r => answerBytes r.2.type r.1 r.2.body := by
  cases c <;> rfl

theorem frameOf_eq_some {c : Instr} {whole : List LineByte} (h : frameOf c = some whole) :
    ∃ drop a, answerRow c = some (drop, a) ∧ whole = answerBytes a.type drop a.body := by
  rw [frameOf_eq, Option.map_eq_some_iff] at h
  obtain ⟨⟨drop, a⟩, hr, rfl⟩ := h
  exact ⟨drop, a, hr, rfl⟩

/-- An answer row receives the frame of its answer (R74). -/
theorem exec_answerRow {t : Time} {l : LineIx} {c : Instr} {drop : Byte} {a : NodeAnswer} (hc : isAnswer t l c)
    (hr : answerRow c = some (drop, a)) {s : State} (h : s.rstnLow = false) :
    exec c s = .next (receiveAnswer l drop a (s.advance t)) := by
  cases c <;> cases hr <;> obtain ⟨rfl, rfl⟩ := hc <;> exact congrArg _ (whenRunning_high h)

/-- The body of an answer that can be sent fits the length byte (section 11.4). -/
theorem answerRow_body {c : Instr} {drop : Byte} {a : NodeAnswer} (hr : answerRow c = some (drop, a)) (hw : wellFormed c) :
    a.body.length < 256 := by
  cases c <;> cases hr <;> simp_all [wellFormed, segmentFits, pendingFits, NodeAnswer.body, wordBytes]

/-- A valid answer has a body of at most 36 bytes (R75). -/
theorem answerRow_short {c : Instr} {drop : Byte} {a : NodeAnswer} (hr : answerRow c = some (drop, a)) {x : Exchange}
    (hv : validFor x c) : a.body.length ≤ 36 := by
  cases c <;> cases hr <;> simp_all [validFor, NodeAnswer.body, wordBytes] <;> omega

theorem judgeAnswer_drop {x : Exchange} {drop : Byte} (a : NodeAnswer) (h : drop.toNat ≠ x.drop.val) :
    judgeAnswer x drop a = .mismatch :=
  if_pos fun hd => h (dropOf_eq_some_iff.mp hd).symm

theorem dropOf_of_eq {x : Exchange} {drop : Byte} (h : drop.toNat = x.drop.val) : dropOf drop = some x.drop :=
  dropOf_eq_some_iff.mpr h.symm

theorem ite_valid_iff {c : Prop} [Decidable c] {g : GoodAnswer} :
    (∃ g', (if c then Verdict.valid g else .mismatch) = .valid g') ↔ c := by
  split <;> simp_all

/-- Answers are judged valid exactly when they pass the tests of R75. -/
theorem validFor_iff {c : Instr} {drop : Byte} {a : NodeAnswer} (hr : answerRow c = some (drop, a)) (hb : a.body.length ≤ 36)
    (x : Exchange) : validFor x c ↔ ∃ g, judgeAnswer x drop a = .valid g := by
  by_cases hd : drop.toNat = x.drop.val
  · have hdrop := dropOf_of_eq hd
    cases c with
    | ident =>
      cases hr
      cases hk : x.kind <;> simp [judgeAnswer, validFor, hdrop, hd, hk]
    | accept =>
      cases hr
      cases hk : x.kind <;> simp [judgeAnswer, validFor, hdrop, hd, hk, ← seqOf_eq_some_iff, ite_valid_iff]
    | refuse _ _ _ seq reason =>
      cases hr
      cases hk : x.kind <;> simp [judgeAnswer, validFor, hdrop, hd, hk, ← seqOf_eq_some_iff, ← reasonOf_isSome_iff]
      cases reasonOf reason <;> simp [ite_valid_iff]
    | segment _ _ _ seq _ _ data =>
      cases hr
      have hlen : data.length ≤ 32 := Nat.le_of_add_le_add_right (b := 4) hb
      cases hk : x.kind <;> simp [judgeAnswer, validFor, hdrop, hd, hk, hlen, ← seqOf_isSome_iff]
      cases seqOf seq <;> simp
    | pending _ _ _ seqs =>
      cases hr
      cases hk : x.kind <;> simp [judgeAnswer, validFor, hdrop, hd, hk, ← seqsOf_isSome_iff]
      cases hq : seqsOf seqs <;> simp
      rw [ite_valid_iff, seqsOf_eq_some_iff.mp hq, List.nodup_map_iff byteOf_seq_injective]
    | fault _ _ _ seq _ =>
      cases hr
      cases hk : x.kind <;> simp [judgeAnswer, validFor, hdrop, hd, hk, ← seqOf_isSome_iff]
      cases seqOf seq <;> simp
    | _ => cases hr
  · rw [judgeAnswer_drop a hd]
    cases c <;> cases hr <;> simp [validFor, hd]

/-- An answer is judged valid or counts as a mismatch. -/
theorem judgeAnswer_cases (x : Exchange) (drop : Byte) (a : NodeAnswer) :
    (∃ g, judgeAnswer x drop a = .valid g) ∨ judgeAnswer x drop a = .mismatch := by
  unfold judgeAnswer
  repeat' split
  all_goals simp

end Sys2Proof.Machine
end

section
/-! PROOFS. The frame sent, and answers that are not awaited or do not fit. -/

namespace Sys2Proof.Machine

/-- Where the frame of an answer ends that can be sent, whatever its body (R74). -/
theorem answerEnd_sent {type drop : Byte} {body : List Byte} (h : body.length < 256) :
    answerEnd (answerBytes type drop body) = min (answerBytes type drop body).length 40 := by
  have hb : answerBytes type drop body =
      ⟨type, true⟩ :: ⟨drop, true⟩ :: ⟨byteOf body.length, true⟩ ::
        (body ++ [crc8 ([type, drop, byteOf body.length] ++ body)]).map (fun b => ⟨b, true⟩) := by
    simp [answerBytes, closed]
  rw [length_answerBytes, hb, answerEnd_header, toNat_byteOf h]

/-- What an answer row does while the line listens: the frame is taken up to the byte that ends it, when it goes on with what
was received and came in time (R74; log entry 11). -/
theorem exec_answer_heard {t : Time} {l : LineIx} {c : Instr} {whole : List LineByte} {s : State} (hrun : s.rstnLow = false)
    (hc : isAnswer t l c) (hf : frameOf c = some whole) (hw : wellFormed c) {x : Exchange} {soFar : List LineByte} {since : Time}
    (hh : hears s l x soFar since) :
    exec c s = .next
      (if soFar <+: whole ∧ soFar.length < min whole.length 40 ∧
          max s.now t < since + (min whole.length 40 - soFar.length) * (x.window + 40) then
        takeAnswer l x (whole.take 40) (s.advance t)
      else s.advance t) := by
  obtain ⟨drop, a, hr, rfl⟩ := frameOf_eq_some hf
  have hh' : hears (s.advance t) l x soFar since := hh
  have htake : ∀ {k : List LineByte}, k.take (min k.length 40) = k.take 40 := fun {k} => by
    rw [min_comm, ← List.take_take, List.take_length]
  rw [exec_answerRow hc hr hrun, receiveAnswer_eq hh']
  dsimp only
  rw [answerEnd_sent (answerRow_body hr hw), htake, List.length_take, min_comm 40]
  simp only [Nat.sub_pos_iff_lt, State.advance_now]

/-- Settles O41: an attempt that is being sent has its window opened, and an answer row does something only when the line
listens, its frame goes on with what was received, and it came in time. -/
theorem frameSentOpensTheWindow : Obligations.FrameSentOpensTheWindow := by
  refine ⟨fun t l s hrun => ?_, fun t l c s hrun hc => ⟨fun hdeaf => ?_, fun x soFar since whole hh hf hw hlate => ?_⟩⟩
  · refine (congrArg Host.Outcome.next (whenRunning_high hrun)).trans (congrArg _ ?_)
    unfold openWindow
    rw [State.advance_line]
    cases hs : (s.line l).state with
    | exchanging pend x =>
      have hs' : ((s.advance t).line l).state = .exchanging pend x := hs
      cases hp : x.phase with
      | sending => simp [hp, setPhase_eq hs']
      | _ => simp [hp]
    | _ => rfl
  · have hdeaf' : ∀ x soFar since, ¬hears (s.advance t) l x soFar since := hdeaf
    cases c with
    | invalidAnswer t' l' bytes =>
      obtain ⟨rfl, rfl⟩ := hc
      show Host.Outcome.next (if s.rstnLow then _ else receiveBytes t' l' bytes s) = _
      rw [hrun, receiveBytes_deaf bytes hdeaf]
      rfl
    | ident | accept | refuse | segment | pending | fault =>
      rw [exec_answerRow hc rfl hrun, receiveAnswer_deaf hdeaf']
    | _ => cases hc
  · rw [exec_answer_heard hrun hc hf hw hh, if_neg]
    rintro ⟨hp, hl, ht⟩
    exact hlate.elim (· hp) (absurd ht ∘ not_lt.mpr)

end Sys2Proof.Machine
end

section
/-! PROOFS. What a failed attempt does, and how a broken or wrong answer is judged. -/

namespace Sys2Proof.Machine

/-! ## A failed exchange at its node -/

theorem State.modNode_modNode (s : State) (n : NodeIx) (f g : NodeRec → NodeRec) :
    (s.modNode n f).modNode n g = s.modNode n (g ∘ f) := by
  simp [State.modNode, State.setNode, State.node]

theorem State.modBound_modBound (s : State) (n : NodeIx) (f g : BoundNode → BoundNode) :
    (s.modBound n f).modBound n g = s.modBound n (g ∘ f) := by
  simp only [State.modBound, State.modNode_modNode, Function.comp_def, Option.map_map]

theorem bumpCount_eq_min (c : Nat) : bumpCount c = min (c + 1) 15 := by
  unfold bumpCount
  split <;> omega

/-- The silence count of a node is raised as R52 and R64 have it. -/
theorem countSilence_eq (n : NodeIx) (s : State) : countSilence n s = s.silenced n := by
  unfold countSilence State.silenced
  cases hb : s.bound n with
  | none => rfl
  | some b =>
    cases hh : b.health with
    | online => simp only [hh, bumpCount_eq_min, millis, usPerMs, Nat.mul_comm _ 1000, decide_eq_true_eq]
    | suspect check => simp only [hh, bumpCount_eq_min, decide_eq_true_eq]
    | probing due => simp only [hh]
    | offline => simp only [hh]

theorem State.issuingAt_entry {s : State} {n : NodeIx} {q : Seq} {i : EntryIx} (h : s.issuingAt n q = some i) :
    ∃ e, s.entry i = some e := by
  obtain ⟨e, he, -⟩ := issuingAt_some h
  exact ⟨e, he⟩

/-- The outcome of a failed REQUEST at its entry, before the silence is counted (R11, R61). -/
theorem requestFailed_eq (n : NodeIx) (q : Seq) (s : State) :
    requestFailed n q s =
      (let cleared := s.modBound n fun b => { b with issuingSeq := none, abandoned := withSeq q b.abandoned }
      match s.issuingAt n q with
      | none => cleared
      | some i =>
        if s.holds i fun e => e.kind == .read then returnToReady false n [i] cleared else finish .timeout i cleared) := by
  have hcleared : abandonSeq n q (clearIssuing n s) =
      s.modBound n fun b => { b with issuingSeq := none, abandoned := withSeq q b.abandoned } :=
    State.modBound_modBound s n _ _
  unfold requestFailed
  rw [hcleared]
  cases hi : s.issuingAt n q with
  | none => rfl
  | some i =>
    obtain ⟨e, he⟩ := State.issuingAt_entry hi
    cases hk : e.kind <;> simp [he, hk, State.holds]

theorem State.modNode_congr {s : State} {n : NodeIx} {f g : NodeRec → NodeRec} (h : f (s.node n) = g (s.node n)) :
    s.modNode n f = s.modNode n g := congrArg (s.setNode n) h

/-- The probe of a PROBING node that failed (R50). -/
theorem probeFailed_eq {n : NodeIx} {s : State} (h : ∃ b, s.bound n = some b ∧ b.health.same (.probing none) = true) :
    probeFailed n s = s.modNode n fun r =>
      { r with
        counters := { r.counters with probes := bump r.counters.probes }
        bound := r.bound.map fun b => { b with health := .probing (some (s.now + 1000 * s.params.probeInterval)) } } := by
  obtain ⟨b, hb, hp⟩ := h
  have hb' : (s.node n).bound = some b := hb
  unfold probeFailed
  refine State.modNode_congr ?_
  cases hh : b.health <;> simp_all [Health.same, millis, usPerMs, Nat.mul_comm]

/-- What the failure of an exchange does at its node (R78). -/
theorem exchangeOutcome_eq {x : Exchange} {s : State}
    (h : x.kind = .reset → ∃ b, s.bound x.node = some b ∧ b.health.same (.probing none) = true) :
    exchangeOutcome x s = s.failedAt x := by
  unfold exchangeOutcome State.failedAt
  cases hk : x.kind with
  | reset => exact probeFailed_eq (h hk)
  | poll => exact countSilence_eq ..
  | request q =>
    simp only [countSilence_eq, requestFailed_eq]
    cases s.issuingAt x.node q with
    | none => rfl
    | some i => exact apply_ite (fun u : State => u.silenced x.node) ..

/-! ## A failed attempt -/

theorem State.modLine_congr {s : State} {l : LineIx} {f g : LineRec → LineRec} (h : f (s.line l) = g (s.line l)) :
    s.modLine l f = s.modLine l g := congrArg (s.setLine l) h

theorem sendAgain_eq {l : LineIx} {x y : Exchange} {pend : Bool} {s : State} (h : (s.line l).state = .exchanging pend y) :
    sendAgain l x s = s.modLine l fun r =>
      { r with
        state := .exchanging pend { x with attempt := x.attempt + 1, window := s.params.responseWindow, phase := .sending } } :=
  State.modLine_congr (by simp [h])

/-- The state after an attempt that failed has been counted, if it is (R76). -/
def State.attemptCounted (s : State) (l : LineIx) (x : Exchange) (count : LineCounters → LineCounters) : State :=
  if x.uncounted then s else raiseBoth .lineError (s.modLine l fun r => { r with counters := count r.counters })

section
variable (s : State) (l : LineIx) (x : Exchange) (count : LineCounters → LineCounters)

theorem attemptCounted_state (k : LineIx) : ((s.attemptCounted l x count).line k).state = (s.line k).state := by
  unfold State.attemptCounted
  split
  · rfl
  · rw [raiseBoth_line]
    exact countLine_state l count s k

@[simp] theorem attemptCounted_bound (n : NodeIx) : (s.attemptCounted l x count).bound n = s.bound n := by
  unfold State.attemptCounted
  split <;> simp

@[simp] theorem attemptCounted_committedTotal : (s.attemptCounted l x count).committedTotal = s.committedTotal := by
  unfold State.attemptCounted
  split <;> simp

@[simp] theorem attemptCounted_admission : (s.attemptCounted l x count).admission = s.admission := by
  unfold State.attemptCounted
  split <;> simp

@[simp] theorem attemptCounted_params : (s.attemptCounted l x count).params = s.params := by
  unfold State.attemptCounted
  split <;> rfl

end

/-- An attempt that fails at time `t`, with what follows from it (R76, R78, R79). -/
theorem attemptEnds_eq {s : State} (hs : Lawful s) (t : Time) {l : LineIx} {pend : Bool} {x : Exchange}
    (hx : (s.line l).state = .exchanging pend x) (f : AttemptFault) :
    attemptEnds f l x (s.advance t) = s.attemptFailed t l pend x f.count := by
  have hstate := (attemptCounted_state (s.advance t) l x f.count l).trans hx
  have hprobing : x.abandoned = false → x.kind = .reset → ∃ b, s.bound x.node = some b ∧ b.health.same (.probing none) = true :=
    fun ha hk => by
      obtain ⟨b, hb, -, -, h⟩ := exchange_addresses hs.lineLaw hx ha
      rw [hk] at h
      exact ⟨b, hb, h⟩
  show retest s (let counted := (s.advance t).attemptCounted l x f.count
      if x.abandoned then exchangeFails l x counted else if x.attempt < 3 then sendAgain l x counted
      else exchangeFails l x counted) = _
  show _ = (let counted := (s.advance t).attemptCounted l x f.count
      if x.abandoned = false ∧ x.attempt < 3 then _ else _)
  dsimp only
  rcases Bool.eq_false_or_eq_true x.abandoned with ha | ha
  · rw [if_pos ha, if_neg (by simp [ha]), if_pos ha, exchangeFails, if_pos ha]
    rfl
  · rw [if_neg (by simp [ha])]
    by_cases h3 : x.attempt < 3
    · rw [if_pos h3, if_pos ⟨ha, h3⟩, sendAgain_eq hstate, attemptCounted_params]
      exact retest_of_same (u := ((s.advance t).attemptCounted l x f.count).modLine l _) (attemptCounted_committedTotal ..)
        (congrArg GlobalParams.limit (attemptCounted_params ..)) (attemptCounted_admission ..)
    · rw [if_neg h3, if_neg (by simp [h3]), if_neg (by simp [ha]), exchangeFails, if_neg (by simp [ha]), exchangeOutcome_eq]
      · rfl
      · intro hk
        obtain ⟨b, hb, hp⟩ := hprobing ha hk
        refine ⟨b, ?_, hp⟩
        split <;> simpa [countLine] using hb

end Sys2Proof.Machine
end

section
/-! PROOFS. How the bytes of an answer end an attempt. -/

namespace Sys2Proof.Machine

/-! ## The judgement of bytes that have ended -/

/-- An answer that declares a body above 36 bytes fails the check byte (R75, R76). -/
theorem judgeReceived_overlong {x : Exchange} {type drop len : LineByte} {tail : List LineByte} (h : 36 < len.value.toNat) :
    judgeReceived x (type :: drop :: len :: tail) = .frameCheck := by
  unfold judgeReceived
  split
  · exact if_neg fun hc => absurd hc.1 (not_le.mpr h)
  · rfl

/-- An answer with a body of at most 36 bytes is judged by its stop bits and its check byte, and then by its fields
(R75, R189). -/
theorem judgeReceived_closed {x : Exchange} {type drop len byte : LineByte} {body : List LineByte}
    (hl : len.value.toNat = body.length) (hb : body.length ≤ 36) :
    judgeReceived x (type :: drop :: len :: body ++ [byte]) =
      if (type :: drop :: len :: body ++ [byte]).all (·.stop) ∧
          byte.value = crc8 (type.value :: drop.value :: len.value :: body.map (·.value)) then
        (answerOf type.value (body.map (·.value))).elim .mismatch (judgeAnswer x drop.value)
      else .frameCheck := by
  unfold judgeReceived
  cases hs : (type :: drop :: len :: body ++ [byte]).all (·.stop) with
  | false => simp
  | true =>
    have hlen : len.value.toNat = (body.map (·.value)).length := by rw [hl, List.length_map]
    simp only [List.cons_append, List.map_cons, List.map_append, List.map_nil, judgeAnswerBytes, hlen, List.take_left',
      List.drop_left', List.length_map, maxAnswerBody, hb, true_and, List.cons.injEq, and_true, if_true, List.nil_append]
    cases answerOf type.value (body.map (·.value)) <;> rfl

/-- An answer that bytes spell has their type and a body as long as theirs. -/
theorem answerOf_shape {type : Byte} {body : List Byte} {a : NodeAnswer} (h : answerOf type body = some a) :
    type = a.type ∧ body.length = a.body.length := by
  unfold answerOf at h
  repeat' split at h
  all_goals cases h
  all_goals simp_all [NodeAnswer.type, NodeAnswer.body, wordBytes]

/-- The tests of R75 on drop, type and body length that a mismatch fails. -/
def misfits (x : Exchange) (drop type : Byte) (length : Nat) : Prop :=
  drop.toNat ≠ x.drop.val ∨
    match x.kind with
    | .reset => type ≠ 0x81 ∨ length ≠ 2
    | .request _ => (type ≠ 0x82 ∨ length ≠ 1) ∧ (type ≠ 0x83 ∨ length ≠ 2)
    | .poll => (type ≠ 0x84 ∨ length < 4) ∧ (type ≠ 0x85 ∨ 16 < length) ∧ (type ≠ 0x86 ∨ length ≠ 2)

theorem judgeAnswer_misfits {x : Exchange} {drop : Byte} {a : NodeAnswer} (h : misfits x drop a.type a.body.length) :
    judgeAnswer x drop a = .mismatch := by
  by_cases hd : drop.toNat = x.drop.val
  · have hdrop := dropOf_of_eq hd
    replace h := h.resolve_left (not_not.mpr hd)
    cases hk : x.kind <;> rw [hk] at h <;> cases a <;>
      simp_all [judgeAnswer, NodeAnswer.type, NodeAnswer.body, wordBytes]
    case pos.poll.segment => omega
    case pos.poll.pending =>
      split
      · simp [not_le.mpr h]
      · rfl
  · exact judgeAnswer_drop a hd

theorem judged_misfits {x : Exchange} {drop type : Byte} {body : List Byte} (h : misfits x drop type body.length) :
    (answerOf type body).elim .mismatch (judgeAnswer x drop) = .mismatch := by
  cases ha : answerOf type body with
  | none => rfl
  | some a =>
    obtain ⟨rfl, hl⟩ := answerOf_shape ha
    rw [hl] at h
    exact judgeAnswer_misfits h

/-! ## Bytes that a line takes -/

section
variable {s : State} (hs : Lawful s) (t : Time) {l : LineIx} {pend : Bool} {x : Exchange}
  (hx : (s.line l).state = .exchanging pend x) {answer : List LineByte} (hend : answerEnd answer ≤ answer.length)
include hs hx hend

/-- An answer that has ended and is broken fails the attempt (R76). -/
theorem takeAnswer_frameCheck (hj : judgeReceived x answer = .frameCheck) :
    takeAnswer l x answer (s.advance t) = s.attemptFailed t l pend x fun c => { c with frameCheck := bump c.frameCheck } := by
  rw [takeAnswer_ended hend, hj]
  exact attemptEnds_eq hs t hx .frameCheck

/-- An answer that has ended and fails the tests of R75 fails the attempt (R76). -/
theorem takeAnswer_mismatch (hj : judgeReceived x answer = .mismatch) :
    takeAnswer l x answer (s.advance t) = s.attemptFailed t l pend x fun c => { c with mismatch := bump c.mismatch } := by
  rw [takeAnswer_ended hend, hj]
  exact attemptEnds_eq hs t hx .mismatch

end

theorem receiveByte_now (l : LineIx) (byte : LineByte) (s : State) : (receiveByte l byte s).now = s.now :=
  (State.kept_eq (receiveByte_kept l byte s)).1

theorem receiveByte_rstnLow (l : LineIx) (byte : LineByte) (s : State) : (receiveByte l byte s).rstnLow = s.rstnLow :=
  (State.kept_eq (receiveByte_kept l byte s)).2.1

/-- A row of one byte, received at the time of the row (R74). -/
theorem exec_byte (t : Time) (l : LineIx) (byte : LineByte) {s : State} (hrun : s.rstnLow = false) :
    exec (.invalidAnswer t l [⟨byte, 0⟩]) s = .next (receiveByte l byte (s.advance t)) := by
  show Host.Outcome.next (if s.rstnLow then s.advance t else (receiveByte l byte (s.advance t)).advance t) = _
  rw [hrun, if_neg (by simp), State.advance_again]
  rw [receiveByte_now]
  exact le_max_right ..

/-- A byte of an answer that the line listens for (R74; log entry 11). -/
theorem exec_byte_heard {t : Time} {l : LineIx} {s : State} (hrun : s.rstnLow = false) {x : Exchange} {soFar : List LineByte}
    {since : Time} (hh : hears s l x soFar since) (byte : LineByte) :
    exec (.invalidAnswer t l [⟨byte, 0⟩]) s =
      if max s.now t < since + 1 * (x.window + 40) then .next (takeAnswer l x (soFar ++ [byte]) (s.advance t))
      else .next (s.advance t) := by
  have hh' : hears (s.advance t) l x soFar since := hh
  rw [exec_byte t l byte hrun, receiveByte_eq hh', Nat.one_mul]
  exact apply_ite Host.Outcome.next ..

theorem execAll_bytes_low (t : Time) (l : LineIx) (bytes : List HeardByte) {s : State} (h : s.rstnLow = true) :
    ∃ u, execAll (bytes.map fun h => .invalidAnswer (t - h.ago) l [⟨h.byte, 0⟩]) s = .next u ∧ u.advance t = s.advance t := by
  induction bytes generalizing s with
  | nil => exact ⟨s, rfl, rfl⟩
  | cons b rest ih =>
    obtain ⟨u, hu, hr⟩ := ih (s := s.advance (t - b.ago)) h
    have hb : exec (.invalidAnswer (t - b.ago) l [⟨b.byte, 0⟩]) s = .next (s.advance (t - b.ago)) :=
      congrArg Host.Outcome.next (if_pos h)
    refine ⟨u, (execAll_cons _ hb).trans hu, hr.trans ?_⟩
    simp only [State.advance, max_assoc]
    rw [max_eq_right (Nat.sub_le t b.ago)]

/-- The bytes of a row one after the other, each as a row of its own at its own time (R74). -/
theorem execAll_bytes (t : Time) (l : LineIx) (bytes : List HeardByte) (s : State) :
    ∃ u, execAll (bytes.map fun h => .invalidAnswer (t - h.ago) l [⟨h.byte, 0⟩]) s = .next u ∧
      exec (.invalidAnswer t l bytes) s = .next (u.advance t) := by
  cases hrun : s.rstnLow with
  | true =>
    show ∃ u, _ ∧ Host.Outcome.next (if s.rstnLow then s.advance t else _) = _
    rw [if_pos hrun]
    obtain ⟨u, hu, hr⟩ := execAll_bytes_low t l bytes hrun
    exact ⟨u, hu, congrArg _ hr.symm⟩
  | false =>
    show ∃ u, _ ∧ Host.Outcome.next (if s.rstnLow then _ else receiveBytes t l bytes s) = _
    rw [hrun, if_neg (by simp)]
    induction bytes generalizing s with
    | nil => exact ⟨s, rfl, rfl⟩
    | cons h rest ih =>
      obtain ⟨u, hu, hr⟩ := ih (receiveByte l h.byte (s.advance (t - h.ago))) (by rw [receiveByte_rstnLow]; exact hrun)
      refine ⟨u, ?_, hr⟩
      rw [List.map_cons, execAll_cons _ (exec_byte (t - h.ago) l h.byte hrun)]
      exact hu

end Sys2Proof.Machine
end

section
/-! PROOFS. The attempts that fail. -/

namespace Sys2Proof.Machine

/-- The bytes that a line has received are fewer than the answer they belong to ends with (R74). -/
theorem hears_short {s : State} (hs : Lawful s) {l : LineIx} {x : Exchange} {soFar : List LineByte} {since : Time}
    (h : hears s l x soFar since) : soFar.length < answerEnd soFar := by
  obtain ⟨⟨pend, hx⟩, ⟨-, rfl⟩ | hp⟩ := h
  · decide
  · obtain ⟨-, -, -, -, hphase, -⟩ := exchange_lawful hs.lineLaw hx
    rw [hp] at hphase
    exact hphase.2

/-- Where an answer ends is fixed by its third byte (R74). -/
theorem answerEnd_of_prefix {soFar whole : List LineByte} (h : soFar <+: whole) (h3 : 3 ≤ soFar.length) :
    answerEnd whole = answerEnd soFar := by
  obtain ⟨rest, rfl⟩ := h
  match soFar, h3 with
  | _ :: _ :: _ :: _, _ => rfl

/-- The bytes received of an answer that can be sent are short of its end. -/
theorem hears_short_of {s : State} (hs : Lawful s) {l : LineIx} {x : Exchange} {soFar : List LineByte} {since : Time}
    (hh : hears s l x soFar since) {c : Instr} {whole : List LineByte} (hf : frameOf c = some whole) (hw : wellFormed c)
    (hp : soFar <+: whole) : soFar.length < min whole.length 40 := by
  have hshort := hears_short hs hh
  obtain ⟨drop, a, hr, rfl⟩ := frameOf_eq_some hf
  by_cases h3 : 3 ≤ soFar.length
  · rwa [← answerEnd_of_prefix hp h3, answerEnd_sent (answerRow_body hr hw)] at hshort
  · rw [length_answerBytes]
    omega

/-- An answer row that goes on with what the line has received is taken up to its end, if it came in time (R74). -/
theorem exec_answer_due {s : State} (hs : Lawful s) {t : Time} {l : LineIx} {c : Instr} {whole : List LineByte}
    (hrun : s.rstnLow = false) (hc : isAnswer t l c) (hf : frameOf c = some whole) (hw : wellFormed c) {x : Exchange}
    {soFar : List LineByte} {since : Time} (hp : soFar <+: whole) (hh : hears s l x soFar since) :
    exec c s =
      if max s.now t < since + (min whole.length 40 - soFar.length) * (x.window + 40) then
        .next (takeAnswer l x (whole.take 40) (s.advance t))
      else .next (s.advance t) := by
  have hshort := hears_short_of hs hh hf hw hp
  rw [exec_answer_heard hrun hc hf hw hh, apply_ite Host.Outcome.next]
  exact if_congr (by simp only [hp, hshort, true_and]) rfl rfl

/-- An answer whose header declares its body has ended with its check byte. -/
theorem answerEnd_closed {type drop len byte : LineByte} {body : List LineByte} (h : len.value.toNat = body.length) :
    answerEnd (type :: drop :: len :: body ++ [byte]) ≤ (type :: drop :: len :: body ++ [byte]).length := by
  simp only [List.cons_append, answerEnd_header, h, List.length_cons, List.length_append, List.length_nil]
  omega

/-- Settles O42: the bytes are taken one after the other, and each way in which an attempt ends without a valid answer is the
failure of the attempt on its counter. -/
theorem failedAttemptsEndTheExchange : Obligations.FailedAttemptsEndTheExchange := by
  refine ⟨execAll_bytes, fun t l pend x soFar since s hs hrun hx hh => ?_⟩
  have hh' : hears (s.advance t) l x soFar since := hh
  refine ⟨?_, ?_, fun byte => ⟨fun hopen => ?_, fun type drop len tail hb hlen ht => ?_, fun type drop len body hb hl h36 =>
    ⟨fun hbad => ?_, fun hgood hmis => ?_⟩⟩, fun c whole hc hf hw hp => ⟨fun h40 => ?_, fun h40 hv => ?_, fun byte hb => ?_⟩⟩
  · refine (congrArg Host.Outcome.next (whenRunning_high hrun)).trans ?_
    rw [windowExpires, listening_eq_some.mpr hh']
    cases soFar with
    | nil =>
      dsimp only
      rw [attemptEnds_eq hs t hx, apply_ite Host.Outcome.next]
      exact if_congr (by simp) rfl rfl
    | cons => simp
  · refine (congrArg Host.Outcome.next (whenRunning_high hrun)).trans ?_
    rw [answerBreaks, listening_eq_some.mpr hh']
    dsimp only
    rw [attemptEnds_eq hs t hx, apply_ite Host.Outcome.next]
    rfl
  · rw [exec_byte_heard hrun hh, takeAnswer_unfinished, setPhase_eq (s := s.advance t) hx]
    · rfl
    · rcases hopen with h | ⟨type, drop, len, tail, h, hlen⟩
      · rw [answerEnd_short h]
        omega
      · rw [h]
        exact hlen
  · rw [exec_byte_heard hrun hh, hb, takeAnswer_frameCheck hs t hx _ (judgeReceived_overlong hlen)]
    simp only [answerEnd_header, List.length_cons]
    omega
  · rw [exec_byte_heard hrun hh, hb, takeAnswer_frameCheck hs t hx (answerEnd_closed hl)]
    rw [judgeReceived_closed hl h36, ← hb]
    exact if_neg hbad
  · rw [exec_byte_heard hrun hh, hb, takeAnswer_mismatch hs t hx (answerEnd_closed hl)]
    rw [judgeReceived_closed hl h36, ← hb, if_pos hgood]
    exact judged_misfits (by rwa [List.length_map])
  · rw [exec_answer_due hs hrun hc hf hw hp hh, min_eq_right h40.le]
    obtain ⟨drop, a, hr, rfl⟩ := frameOf_eq_some hf
    have hbody := answerRow_body hr hw
    have hlen : 36 < (byteOf a.body.length).toNat := by
      rw [length_answerBytes] at h40
      rw [toNat_byteOf hbody]
      omega
    rw [takeAnswer_frameCheck hs t hx]
    · rw [List.length_take, min_eq_left h40.le]
      exact answerEnd_le _
    · exact judgeReceived_overlong hlen
  · rw [exec_answer_due hs hrun hc hf hw hp hh, min_eq_left h40, List.take_of_length_le h40]
    obtain ⟨drop, a, hr, rfl⟩ := frameOf_eq_some hf
    have hbody : a.body.length ≤ 36 := by simpa using h40
    rw [takeAnswer_mismatch hs t hx (answerEnd_frame a drop hbody).le]
    rw [judgeReceived_frame x drop a hbody]
    exact (judgeAnswer_cases x drop a).resolve_left (mt (validFor_iff hr hbody x).mpr hv)
  · have hlen : whole.length = soFar.length + 1 := by rw [← hb, List.length_append, List.length_singleton]
    have h40 : whole.length ≤ 40 := by
      have := (hears_short hs hh).trans_le (answerEnd_le soFar)
      omega
    rw [exec_answer_due hs hrun hc hf hw hp hh, exec_byte_heard hrun hh, hb, min_eq_left h40, List.take_of_length_le h40,
      hlen, Nat.add_sub_cancel_left]

end Sys2Proof.Machine
end

section
/-! PROOFS. What a valid answer does: it is counted on the line and, unless its exchange was abandoned, served at the node's
record and given to its handler. -/

namespace Sys2Proof.Machine

/-- An answer that a line takes whole and that is valid ends the exchange (R77). -/
theorem exec_answer_valid {s : State} {t : Time} {l : LineIx} {c : Instr} {drop : Byte} {a : NodeAnswer} {x : Exchange}
    {g : GoodAnswer} (hrun : s.rstnLow = false) (hc : isAnswer t l c) (hr : answerRow c = some (drop, a))
    (ht : s.takesWhole t l x (answerBytes a.type drop a.body)) (hb : a.body.length ≤ 36)
    (hj : judgeAnswer x drop a = .valid g) :
    exec c s = .next (retest s (answerValid l x g (s.advance t))) := by
  rw [exec_answerRow hc hr hrun, receiveAnswer_whole ht hb, hj]
  rfl

/-- Settles O43: an exchange that is abandoned is counted on its line, if at all, and the line released. -/
theorem abandonedExchangeActsOnNothing : Obligations.AbandonedExchangeActsOnNothing := by
  intro t l x c whole s _ hrun hc hf ht ha hv
  obtain ⟨drop, a, hr, rfl⟩ := frameOf_eq_some hf
  have hb := answerRow_short hr hv
  obtain ⟨g, hg⟩ := (validFor_iff hr hb x).mp hv
  rw [exec_answer_valid hrun hc hr ht hb hg, answerValid, if_pos ha]
  rfl

theorem exchange_of_takesWhole {s : State} {t : Time} {l : LineIx} {x : Exchange} {whole : List LineByte}
    (h : s.takesWhole t l x whole) : ∃ pend, (s.line l).state = .exchanging pend x := by
  obtain ⟨soFar, since, hh, -⟩ := h
  exact hears_line hh

/-- A valid answer served at the record of its node (R77). -/
theorem serveNode_eq {s : State} (t : Time) (l : LineIx) {x : Exchange} {b : BoundNode} (hb : s.bound x.node = some b) :
    serveNode x (countLine l (fun c => { c with exchanges := bump c.exchanges }) (s.advance t)) = s.served t l x b := by
  have hb' : (countLine l (fun c => { c with exchanges := bump c.exchanges }) (s.advance t)).bound x.node = some b := hb
  unfold serveNode State.served
  rw [hb']
  dsimp only
  cases hh : b.health with
  | suspect d =>
    dsimp only
    rw [State.modBound_modBound]
    rfl
  | probing | online | offline =>
    refine State.modBound_congr fun c hc => ?_
    cases hb'.symm.trans hc
    rw [← hh]
    rfl

/-- What a valid answer to an exchange that stands does at time `t` (R77, R79). -/
theorem exec_answer_served {s : State} (hs : Lawful s) {t : Time} {l : LineIx} {c : Instr} {drop : Byte} {a : NodeAnswer}
    {x : Exchange} {b : BoundNode} {g : GoodAnswer} (hc : isAnswer t l c) (hr : answerRow c = some (drop, a))
    (h : serves s t l x b (answerBytes a.type drop a.body)) (hb : a.body.length ≤ 36) (hj : judgeAnswer x drop a = .valid g) :
    exec c s = .next (retest s (releaseLine l (handleAnswer x.node (s.served t l x b) g))) := by
  obtain ⟨hrun, ht, ha, hbound⟩ := h
  obtain ⟨pend, hx⟩ := exchange_of_takesWhole ht
  have hu : x.uncounted = false := by
    obtain ⟨-, -, -, -, -, -, hu, -⟩ := exchange_lawful hs.lineLaw hx
    rw [Bool.eq_false_iff]
    exact fun h => absurd (hu h) (by simp [ha])
  rw [exec_answer_valid hrun hc hr ht hb hj, answerValid, if_neg (by simp [ha]), if_neg (by simp [hu]), serveNode_eq t l hbound]

end Sys2Proof.Machine
end

section
/-! PROOFS. The part as a served answer finds it, and IDENT. -/

namespace Sys2Proof.Machine

/-! ## The part once an answer has been served -/

section
variable (s : State) (t : Time) (l : LineIx) (x : Exchange) (b : BoundNode)

@[simp] theorem served_now : (s.served t l x b).now = max s.now t := by
  unfold State.served
  cases b.health <;> rfl

@[simp] theorem served_params : (s.served t l x b).params = s.params := by
  unfold State.served
  cases b.health <;> rfl

@[simp] theorem served_buffer : (s.served t l x b).buffer = s.buffer := by
  unfold State.served
  cases b.health <;> rfl

@[simp] theorem served_entry (i : EntryIx) : (s.served t l x b).entry i = s.entry i := by
  unfold State.served
  cases b.health <;> rfl

@[simp] theorem served_freeBlocks : (s.served t l x b).freeBlocks = s.freeBlocks := by
  unfold State.served
  cases b.health <;> rfl

@[simp] theorem served_liveAt (n : NodeIx) (q : Seq) : (s.served t l x b).liveAt n q = s.liveAt n q := by
  unfold State.served
  cases b.health <;> rfl

@[simp] theorem served_issuingAt (n : NodeIx) (q : Seq) : (s.served t l x b).issuingAt n q = s.issuingAt n q := by
  unfold State.served
  cases b.health <;> rfl

@[simp] theorem served_liveSeqs (n : NodeIx) : (s.served t l x b).liveSeqs n = s.liveSeqs n := by
  unfold State.served
  cases b.health <;> rfl

@[simp] theorem served_nodeParams (n : NodeIx) : ((s.served t l x b).node n).params = (s.node n).params := by
  unfold State.served
  cases b.health <;> simp [State.modBound_node] <;> split <;> simp_all

end

theorem served_bound {s : State} {x : Exchange} {b : BoundNode} (hb : s.bound x.node = some b) (t : Time) (l : LineIx) :
    (s.served t l x b).bound x.node = some (b.served x (max s.now t)) := by
  rw [← serveNode_eq t l hb]
  exact serveNode_bound hb

/-! ## IDENT -/

theorem recordedWindow_eq (window : Byte) :
    recordedWindow window.toNat = if window = 0 then 1 else if 8 < window.toNat then 8 else window.toNat := by
  have h0 : window = 0 ↔ window.toNat = 0 := by rw [← BitVec.toNat_inj]; rfl
  unfold recordedWindow clamp
  by_cases h : window = 0
  · rw [if_pos h, if_pos (Nat.lt_one_iff.mpr (h0.mp h))]
  · rw [if_neg h, if_neg (mt Nat.lt_one_iff.mp (mt h0.mpr h))]

/-- The record of a node that IDENT starts fresh (R51, R96). -/
def NodeRec.started (r : NodeRec) (b : BoundNode) (cls : Byte) (window : Nat) (now : Time) : NodeRec :=
  { r with
    slow := decide (r.params.slowCeiling < r.params.eSeed)
    bound := some
      { b with
        health := .online, silence := 0, timeouts := 0, abandoned := [], pendingAck := none, earliestPoll := none
        refuseEnd := none, nextSeq := 0, lastGood := some now, e := r.params.eSeed, s := r.params.sSeed
        advert := some ⟨recordedWindow window, cls⟩ } }

/-- IDENT at a PROBING node. -/
theorem identify_eq {s : State} {n : NodeIx} {b : BoundNode} {d : Option Time} (hb : s.bound n = some b)
    (hh : b.health = .probing d) (cls : Byte) (window : Nat) :
    identify n cls window s =
      (let started := s.setNode n ((s.node n).started b cls window s.now)
      raiseBoth .nodeChange
        (if decide ((s.node n).params.slowCeiling < (s.node n).params.eSeed) && !(s.node n).slow then
          raiseBoth .nodeSlow started
        else started)) := by
  have hb' : (s.node n).bound = some b := hb
  unfold identify
  rw [hb]
  dsimp only
  rw [hh]
  dsimp only
  unfold writeEstimate
  simp only [State.modBound, State.modNode, State.setNode_node_same, State.setNode_setNode, hb', Option.map_some]
  rfl

/-- The part once a PROBING node has been served. -/
theorem served_probing {s : State} {x : Exchange} {b : BoundNode} {d : Option Time} (hb : s.bound x.node = some b)
    (hh : b.health = .probing d) (t : Time) (l : LineIx) :
    s.served t l x b =
      ((s.advance t).modLine l fun r =>
        { r with counters := { r.counters with exchanges := bump r.counters.exchanges } }).setNode x.node
          { s.node x.node with bound := some (b.served x (max s.now t)) } := by
  have hb' : (s.node x.node).bound = some b := hb
  unfold State.served BoundNode.served
  rw [hh]
  simp only [State.modBound, State.modNode, State.modLine_node, State.advance_node, hb', Option.map_some]

/-- Settles O44: the node of a RESET exchange is PROBING, and the fresh start writes every item of its record. -/
theorem identStartsTheNode : Obligations.IdentStartsTheNode := by
  intro t l drop cls window x b s hs h hk hd
  have hj : judgeAnswer x drop (.ident cls window) = .valid (.ident cls window.toNat) := by
    simp [judgeAnswer, dropOf_of_eq hd, hk]
  rw [exec_answer_served hs (c := .ident t l drop cls window) ⟨rfl, rfl⟩ rfl h (by simp [NodeAnswer.body]) hj]
  obtain ⟨-, ht, ha, hb⟩ := h
  obtain ⟨pend, hx⟩ := exchange_of_takesWhole ht
  obtain ⟨b', hb', -, -, hprobing⟩ := exchange_addresses hs.lineLaw hx ha
  cases hb.symm.trans hb'
  rw [hk] at hprobing
  obtain ⟨d, hh⟩ : ∃ d, b.health = .probing d := by
    cases hh : b.health <;> simp_all [Health.same]
  refine congrArg (fun u => Host.Outcome.next (retest s (releaseLine l u))) ?_
  show identify x.node cls window.toNat (s.served t l x b) = _
  have hfound : (s.served t l x b).bound x.node = some (b.served x (max s.now t)) := served_bound hb t l
  have hhealth : (b.served x (max s.now t)).health = .probing d := by simp [BoundNode.served, hh]
  rw [identify_eq hfound hhealth, served_probing hb hh, ← recordedWindow_eq]
  simp only [State.setNode_node_same, State.setNode_setNode]
  rfl

end Sys2Proof.Machine
end

section
/-! PROOFS. No acknowledgement owed, and the entry an answer names. -/

namespace Sys2Proof.Machine

/-! ## No acknowledgement owed -/

theorem owesNothing_iff {s : State} {n : NodeIx} : s.owesNothing n ↔ ∀ v ∈ s.outlineAt n, v.1.2.2.2.2 = none := by
  unfold State.owesNothing State.outlineAt
  cases s.bound n <;> simp [BoundNode.outline]

theorem owesNothing_congr {s u : State} {n : NodeIx} (h : u.outlineAt n = s.outlineAt n) : u.owesNothing n ↔ s.owesNothing n := by
  rw [owesNothing_iff, owesNothing_iff, h]

section
variable {s : State} {n : NodeIx}

@[simp] theorem owesNothing_finish (status : Status) (i : EntryIx) : (finish status i s).owesNothing n ↔ s.owesNothing n :=
  owesNothing_congr (by simp)

@[simp] theorem owesNothing_finishAll (status : Status) (is : List EntryIx) :
    (finishAll status is s).owesNothing n ↔ s.owesNothing n := owesNothing_congr (by simp)

@[simp] theorem owesNothing_returnToReady (charged : Bool) (m : NodeIx) (is : List EntryIx) :
    (returnToReady charged m is s).owesNothing n ↔ s.owesNothing n := owesNothing_congr (by simp)

@[simp] theorem owesNothing_setEntry (i : EntryIx) (o : Option Entry) : (s.setEntry i o).owesNothing n ↔ s.owesNothing n :=
  owesNothing_congr (by simp)

@[simp] theorem owesNothing_takeSample (m : NodeIx) (accepted : Time) :
    (takeSample m accepted s).owesNothing n ↔ s.owesNothing n := owesNothing_congr (by simp)

@[simp] theorem owesNothing_raiseBoth (ev : Event) : (raiseBoth ev s).owesNothing n ↔ s.owesNothing n :=
  owesNothing_congr (by simp)

@[simp] theorem owesNothing_retest (before : State) : (retest before s).owesNothing n ↔ s.owesNothing n :=
  owesNothing_congr (by simp)

/-- A change of the node's fields that leaves none owed, or clears it. -/
theorem owesNothing_modBound (h : s.owesNothing n) (m : NodeIx) {f : BoundNode → BoundNode}
    (hf : ∀ b, b.pendingAck = none → (f b).pendingAck = none) : (s.modBound m f).owesNothing n := fun b hb => by
  rw [State.modBound_bound] at hb
  split at hb
  · rename_i hm
    obtain ⟨c, hc, rfl⟩ := Option.map_eq_some_iff.mp hb
    exact hf c (h c (hm ▸ hc))
  · exact h b hb

theorem owesNothing_goOffline (h : s.owesNothing n) (m : NodeIx) : (goOffline m s).owesNothing n := by
  rcases goOffline_cases m s with heq | ⟨b, hb, hh⟩
  · rwa [heq]
  · rw [goOffline_eq hb hh, owesNothing_raiseBoth, owesNothing_congr (abandonExchanges_outlineAt _ _ n)]
    exact owesNothing_modBound (by simpa using h) m fun _ _ => rfl

theorem owesNothing_releaseLine (h : s.owesNothing n) (l : LineIx) : (releaseLine l s).owesNothing n := by
  unfold releaseLine
  split
  · exact disableNodes_induction (P := fun u => u.owesNothing n) (fun u m _ hu _ _ => owesNothing_goOffline hu m) h
  · exact h
  · exact h
  · exact h

end

/-- Nothing is owed to the node of a served POLL or REQUEST: what it was owed is what the frame carried (R63, R77). -/
theorem served_owesNothing {s : State} (hs : Lawful s) {t : Time} {l : LineIx} {x : Exchange} {b : BoundNode}
    {whole : List LineByte} (h : serves s t l x b whole) (hk : x.kind ≠ .reset) : (s.served t l x b).owesNothing x.node := by
  obtain ⟨-, ht, ha, hb⟩ := h
  obtain ⟨pend, hx⟩ := exchange_of_takesWhole ht
  obtain ⟨c, hc, -, -, hkind⟩ := exchange_addresses hs.lineLaw hx ha
  cases hb.symm.trans hc
  have hack : ∀ a ∈ b.pendingAck, x.ack = some a := by
    cases hkd : x.kind with
    | reset => exact absurd hkd hk
    | poll => rw [hkd] at hkind; exact hkind.2
    | request q => rw [hkd] at hkind; exact hkind.2.2
  intro d hd
  cases (served_bound hb t l).symm.trans hd
  show (if x.ack.isSome then none else b.pendingAck) = none
  split
  · rfl
  · rename_i hnone
    exact Option.eq_none_iff_forall_not_mem.mpr fun a h => hnone (by simp [hack a h])

/-! ## The entry an answer names -/

/-- The entry live under a seq is found by it (R108). -/
theorem liveAt_eq_some {s : State} (hs : SeqLaw s) {n : NodeIx} {b : BoundNode} (hb : s.bound n = some b) {q : Seq}
    {i : EntryIx} {e : Entry} (he : s.entry i = some e) (hn : e.node = n) (hq : e.phase.liveSeq = some q) :
    s.liveAt n q = some i := by
  cases hl : s.liveAt n q with
  | none => exact absurd (mem_liveSeqs.mpr ⟨i, e, he, hn, hq⟩) (liveAt_none hl)
  | some j =>
    obtain ⟨f, hf, hfn, hfq⟩ := liveAt_some hl
    have hnd := nodup_liveSeqs.mp (nodup_usedSeqs.mp (hs.1 n b hb).1).1
    rw [hnd j i f e q hf he hfn hn hfq hq]

theorem liveAt_eq_none {s : State} {n : NodeIx} {q : Seq} (h : q ∉ s.liveSeqs n) : s.liveAt n q = none := by
  cases hl : s.liveAt n q with
  | none => rfl
  | some j =>
    obtain ⟨f, hf, hfn, hfq⟩ := liveAt_some hl
    exact absurd (mem_liveSeqs.mpr ⟨j, f, hf, hfn, hfq⟩) h

theorem Phase.issuingSeq_eq_some {r : Phase} {q : Seq} : r.issuingSeq = some q ↔ r = .issuing q := by
  cases r <;> simp [Phase.issuingSeq]

/-- The entry ISSUING under a seq is found by it (R109). -/
theorem issuingAt_eq_some {s : State} (hs : SeqLaw s) {n : NodeIx} {q : Seq} {i : EntryIx} {e : Entry} (he : s.entry i = some e)
    (hn : e.node = n) (hq : e.phase = .issuing q) : s.issuingAt n q = some i := by
  cases hl : s.issuingAt n q with
  | none => exact absurd (Phase.issuingSeq_eq_some.mpr hq) (issuingAt_none hl he hn)
  | some j =>
    obtain ⟨f, hf, hfn, hfq⟩ := issuingAt_some hl
    rw [hs.issuing_unique he hf (by rw [hq]; rfl) (by rw [hfq]; rfl) (hfn.trans hn.symm)]

theorem issuingAt_eq_none {s : State} {n : NodeIx} {q : Seq}
    (h : ∀ i e, s.entry i = some e → e.node = n → e.phase ≠ .issuing q) : s.issuingAt n q = none := by
  cases hl : s.issuingAt n q with
  | none => rfl
  | some j =>
    obtain ⟨f, hf, hfn, hfq⟩ := issuingAt_some hl
    exact absurd (Phase.issuingSeq_eq_some.mp hfq) (h j f hf hfn)

/-! ## Deadlines and estimates at a served node -/

theorem ticks_eq (n : Nat) : ticks n = 10 * n := Nat.mul_comm ..

theorem served_deadlineTicks {s : State} {x : Exchange} {b : BoundNode} (hb : s.bound x.node = some b) (t : Time) (l : LineIx) :
    deadlineTicks (s.served t l x b) x.node = deadlineTicks s x.node := by
  have hv : ((s.served t l x b).node x.node).bound = _ := served_bound hb t l
  have hb' : (s.node x.node).bound = some b := hb
  simp only [deadlineTicks, served_nodeParams, served_params, hv, hb']
  rfl

theorem served_deadlineEnd {s : State} {x : Exchange} {b : BoundNode} (hb : s.bound x.node = some b) (t : Time) (l : LineIx) :
    deadlineEnd (s.served t l x b) x.node = max s.now t + 10 * deadlineTicks s x.node := by
  rw [deadlineEnd, served_deadlineTicks hb, served_now, ticks_eq]

theorem served_estimate {s : State} {x : Exchange} {b : BoundNode} (hb : s.bound x.node = some b) (t : Time) (l : LineIx) :
    (s.served t l x b).estimate x.node = b.e := by
  rw [State.estimate, served_bound hb]
  rfl

theorem served_isProbing {s : State} {x : Exchange} {b : BoundNode} (hb : s.bound x.node = some b) (t : Time) (l : LineIx) :
    (s.served t l x b).isProbing x.node = b.health.same (.probing none) := by
  rw [State.isProbing, served_bound hb]
  cases hh : b.health <;> simp [BoundNode.served, hh, Health.same]

end Sys2Proof.Machine
end

section
/-! PROOFS. The answers to a REQUEST: ACCEPT and REFUSE. -/

namespace Sys2Proof.Machine

/-- What a served answer leaves its node without: an acknowledgement owed, to the end of the event (R120). -/
theorem ends_owesNothing {s u : State} {n : NodeIx} (h : u.owesNothing n) (l : LineIx) :
    (retest s (releaseLine l u)).owesNothing n :=
  (owesNothing_retest s).mpr (owesNothing_releaseLine h l)

/-- Settles O45: the entry found ISSUING is the one the statement names, and the handler's cases are the statement's. -/
theorem acceptIssuesTheEntry : Obligations.AcceptIssuesTheEntry := by
  intro t l drop seqByte seq x b s hs h hk hd hseq
  have hj : judgeAnswer x drop (.accept seqByte) = .valid (.accept seq) := by
    simp [judgeAnswer, dropOf_of_eq hd, hk, seqOf_eq_some_iff.mpr hseq]
  have hexec := exec_answer_served hs (c := .accept t l drop seqByte) ⟨rfl, rfl⟩ rfl h (by simp [NodeAnswer.body]) hj
  have howes := served_owesNothing hs h (by simp [hk])
  obtain ⟨-, -, -, hb⟩ := h
  have hcleared := owesNothing_modBound howes x.node (f := fun b => { b with issuingSeq := none }) fun _ => id
  have horphaned := owesNothing_modBound hcleared x.node (f := fun b => { b with abandoned := withSeq seq b.abandoned })
    fun _ => id
  refine ⟨fun hnone => ⟨hexec.trans ?_, ends_owesNothing horphaned l⟩, fun i e he hn hp => ⟨hexec.trans ?_, ends_owesNothing ?_ l⟩⟩
  · rw [handleAnswer, onAccept, served_issuingAt, issuingAt_eq_none hnone]
    rfl
  · rw [handleAnswer, onAccept, served_issuingAt, issuingAt_eq_some hs.core.seq he hn hp]
    dsimp only
    rw [served_entry, he]
    dsimp only
    rw [served_isProbing hb]
    cases hh : b.health with
    | probing d =>
      rw [if_pos (show (Health.probing d).same (.probing none) = true from rfl), acceptProbing]
      cases e.kind <;> rfl
    | online | suspect | offline =>
      rw [if_neg (by simp [Health.same]), Entry.acceptedAt, hn, served_deadlineEnd hb, served_estimate hb, served_now, ticks_eq]
      rfl
  · cases b.health with
    | probing d =>
      cases e.kind with
      | read => exact (owesNothing_returnToReady ..).mpr horphaned
      | write => exact (owesNothing_finish ..).mpr horphaned
    | online | suspect | offline => exact (owesNothing_setEntry ..).mpr hcleared

/-- Settles O46: the three reasons are those with and without an error code, and the entry is the one found ISSUING. -/
theorem refuseReturnsOrEnds : Obligations.RefuseReturnsOrEnds := by
  intro t l drop seqByte reason seq x b s hs h hk hd hseq hreason
  obtain ⟨r, hr, hcode⟩ : ∃ r, reasonOf reason = some r ∧
      r.errorCode = if reason = 1 then none else some (if reason = 2 then 0xF0 else 0xF1) := by
    rcases hreason with rfl | rfl | rfl
    · exact ⟨.full, rfl, rfl⟩
    · exact ⟨.badAddress, rfl, rfl⟩
    · exact ⟨.badLength, rfl, rfl⟩
  have hj : judgeAnswer x drop (.refuse seqByte reason) = .valid (.refuse seq r) := by
    simp [judgeAnswer, dropOf_of_eq hd, hk, seqOf_eq_some_iff.mpr hseq, hr]
  have hexec := exec_answer_served hs (c := .refuse t l drop seqByte reason) ⟨rfl, rfl⟩ rfl h (by simp [NodeAnswer.body]) hj
  have howes := served_owesNothing hs h (by simp [hk])
  have hcleared := owesNothing_modBound howes x.node (f := fun b => { b with issuingSeq := none }) fun _ => id
  have hrefused : ∀ {u : State}, u.owesNothing x.node →
      (u.modBound x.node fun b => { b with refuseEnd := some (max s.now t + 200) }).owesNothing x.node :=
    fun hu => owesNothing_modBound hu x.node fun _ => id
  have hback : (s.served t l x b).now + ticks refuseBackOff = max s.now t + 200 := by rw [served_now]; rfl
  refine ⟨fun hnone => ⟨hexec.trans ?_, ends_owesNothing ?_ l⟩, fun i e he hn hp => ⟨hexec.trans ?_, ends_owesNothing ?_ l⟩⟩
  · rw [handleAnswer, onRefuse, served_issuingAt, issuingAt_eq_none hnone, hcode, hback]
    by_cases h1 : reason = 1
    · rw [if_pos h1, if_pos h1]
      rfl
    · rw [if_neg h1, if_neg h1]
      rfl
  · split
    · exact hrefused hcleared
    · exact hcleared
  · rw [handleAnswer, onRefuse, served_issuingAt, issuingAt_eq_some hs.core.seq he hn hp, hcode, hback]
    by_cases h1 : reason = 1
    · rw [if_pos h1, if_pos h1]
      rfl
    · rw [if_neg h1, if_neg h1]
      rfl
  · split
    · exact hrefused ((owesNothing_returnToReady ..).mpr hcleared)
    · exact (owesNothing_finish ..).mpr hcleared

end Sys2Proof.Machine
end

section
/-! PROOFS. SEGMENT for a live entry, and FAULT. -/

namespace Sys2Proof.Machine

/-! ## Bytes placed in blocks -/

/-- Two offsets within a list of distinct blocks have two addresses (R38). -/
theorem blockAddress_injOn {blocks : List BlockIx} (hnd : blocks.Nodup) {p q : Nat} (hp : p / 16 < blocks.length)
    (hq : q / 16 < blocks.length) (h : blockAddress blocks p = blockAddress blocks q) : p = q := by
  have hblock : (blocks.getD (p / 16) 0).val = (blocks.getD (q / 16) 0).val := by
    rw [← show blockBytes = 16 from rfl, ← blockAddress_block, ← blockAddress_block, h]
  rw [List.getD_eq_getElem _ _ hp, List.getD_eq_getElem _ _ hq] at hblock
  have hdiv : p / 16 = q / 16 := (hnd.getElem_inj_iff).mp (Fin.ext hblock)
  have hmod : p % 16 = q % 16 := by
    unfold blockAddress at h
    rw [show blockBytes = 16 from rfl, hdiv] at h
    omega
  omega

/-- A byte placed is read back, when no other byte is placed at its address. -/
theorem bufferRead_storeBytes_at (blocks : List BlockIx) {data : List Byte} :
    ∀ (pos : Nat) {m : List Host.Cell}, bufferWf m →
      (∀ j k, j < data.length → k < data.length → blockAddress blocks (pos + j) = blockAddress blocks (pos + k) → j = k) →
      ∀ k < data.length, bufferRead (storeBytes blocks pos data m) (blockAddress blocks (pos + k)) = data.getD k 0 := by
  induction data with
  | nil => intro _ _ _ _ k hk; exact absurd hk (Nat.not_lt_zero k)
  | cons b rest ih =>
    intro pos m hm hinj k hk
    have hshift : ∀ j, pos + 1 + j = pos + (j + 1) := fun j => by omega
    rw [storeBytes]
    cases k with
    | zero =>
      rw [bufferRead_storeBytes_frame _ _ _ (bufferWrite_wf _ b hm), bufferRead_write _ _ _ hm, Nat.add_zero, if_pos rfl]
      · rfl
      · intro j hj h
        rw [hshift] at h
        exact absurd (hinj (j + 1) 0 (Nat.succ_lt_succ hj) hk h) (Nat.succ_ne_zero j)
    | succ k =>
      rw [← hshift k, ih (pos + 1) (bufferWrite_wf _ b hm) _ k (Nat.lt_of_succ_lt_succ hk)]
      · rfl
      · intro i j hi hj h
        rw [hshift, hshift] at h
        exact Nat.succ_inj.mp (hinj (i + 1) (j + 1) (Nat.succ_lt_succ hi) (Nat.succ_lt_succ hj) h)

/-! ## A segment that is taken -/

theorem length_takenBytes (e : Entry) (data : List Byte) : (takenBytes e data).length = min data.length (e.length - e.received) := by
  rw [takenBytes, List.length_take, min_comm]

theorem newBlocks_eq (e : Entry) (data : List Byte) :
    newBlocks e data = (e.received + min data.length (e.length - e.received) + 15) / 16 - (e.received + 15) / 16 := by
  rw [newBlocks, length_takenBytes]
  rfl

theorem takenBytes_getD {e : Entry} {data : List Byte} {k : Nat} (hk : k < (takenBytes e data).length) :
    (takenBytes e data).getD k 0 = data.getD k 0 := by
  rw [length_takenBytes, lt_min_iff] at hk
  rw [takenBytes, List.getD_eq_getElem?_getD, List.getD_eq_getElem?_getD, List.getElem?_take_of_lt hk.2]

section
variable {s : State} (hs : Core s) {i : EntryIx} {e : Entry} (he : s.entry i = some e) (data : List Byte)
include hs he

/-- The blocks of a READ with the new ones are distinct (R37). -/
theorem grownBlocks_nodup : (grownBlocks s e data).Nodup := by
  have hi : s.blocksAt i = e.blocks := by rw [State.blocksAt, he]; rfl
  refine List.nodup_append'.mpr ⟨hi ▸ (occupied_nodup_iff.mp hs.buffer.1).1 i,
    ((List.nodup_finRange 96).filter _).sublist (List.take_sublist _ _), fun c hc hc' => ?_⟩
  have hfree := (List.mem_filter.mp (List.mem_of_mem_take hc')).2
  simp only [Bool.not_eq_true', List.contains_eq_mem, decide_eq_false_iff_not] at hfree
  exact hfree (mem_occupied.mpr ⟨i, hi ▸ hc⟩)

/-- The blocks of a READ with the new ones hold what it has received with the segment (R37, R38). -/
theorem grownBlocks_length (hfree : newBlocks e data ≤ s.freeBlocks.length) :
    (grownBlocks s e data).length = blocksFor (e.received + (takenBytes e data).length) := by
  obtain ⟨-, hbl, -⟩ := hs.table.1 i e he
  have hmono : blocksFor e.received ≤ blocksFor (e.received + (takenBytes e data).length) := Nat.div_le_div_right (by omega)
  rw [grownBlocks, List.length_append, List.length_take, Nat.min_eq_left hfree, hbl, newBlocks]
  omega

/-- The bytes of a segment are placed at the addresses of their offsets, and every other byte stays (R38). -/
theorem storeBytes_grown (hfree : newBlocks e data ≤ s.freeBlocks.length) :
    (∀ k < (takenBytes e data).length,
      bufferRead (storeBytes (grownBlocks s e data) e.received (takenBytes e data) s.buffer)
        (blockAddress (grownBlocks s e data) (e.received + k)) = data.getD k 0) ∧
    ∀ a, (∀ k < (takenBytes e data).length, a ≠ blockAddress (grownBlocks s e data) (e.received + k)) →
      bufferRead (storeBytes (grownBlocks s e data) e.received (takenBytes e data) s.buffer) a = bufferRead s.buffer a := by
  have hin : ∀ k < (takenBytes e data).length, (e.received + k) / 16 < (grownBlocks s e data).length := fun k hk => by
    rw [grownBlocks_length hs he data hfree, blocksFor]
    omega
  refine ⟨fun k hk => ?_, fun a ha => ?_⟩
  · rw [bufferRead_storeBytes_at _ _ hs.buffer.2 _ k hk, takenBytes_getD hk]
    intro j k hj hk h
    have := blockAddress_injOn (grownBlocks_nodup hs he data) (hin j hj) (hin k hk) h
    omega
  · exact bufferRead_storeBytes_frame _ _ _ hs.buffer.2 fun k hk => (ha k hk).symm

end

end Sys2Proof.Machine
end

section
/-! PROOFS. SEGMENT for a live entry, and FAULT. -/

namespace Sys2Proof.Machine

/-! ## The answers to a POLL at their handlers -/

section
variable {s : State} (hs : Lawful s) {t : Time} {l : LineIx} {x : Exchange} {b : BoundNode} {drop seqByte : Byte} {seq : Seq}
  (hk : x.kind = .poll) (hd : drop.toNat = x.drop.val) (hseq : seqByte.toNat = seq.val)
include hs hk hd hseq

theorem exec_segment_served {flags : Byte} {offset : Word} {data : List Byte} (hlen : data.length ≤ 32)
    (h : serves s t l x b (answerBytes 0x84 drop ([seqByte, flags] ++ wordBytes offset.toNat ++ data))) :
    exec (.segment t l drop seqByte flags offset data) s = .next (retest s (releaseLine l
      (onSegment x.node seq (flags.getLsbD 0) offset.toNat data (s.served t l x b)))) := by
  have hj : judgeAnswer x drop (.segment seqByte flags offset data) =
      .valid (.segment seq (flags.getLsbD 0) offset.toNat data) := by
    simp [judgeAnswer, dropOf_of_eq hd, hk, seqOf_eq_some_iff.mpr hseq]
  have hexec := exec_answer_served hs (c := .segment t l drop seqByte flags offset data) ⟨rfl, rfl⟩ rfl h
    (Nat.add_le_add_right hlen 4) hj
  rwa [handleAnswer] at hexec

theorem exec_fault_served {code : Byte} (h : serves s t l x b (answerBytes 0x86 drop [seqByte, code])) :
    exec (.fault t l drop seqByte code) s = .next (retest s (releaseLine l
      (onFault x.node seq code (s.served t l x b)))) := by
  have hj : judgeAnswer x drop (.fault seqByte code) = .valid (.fault seq code) := by
    simp [judgeAnswer, dropOf_of_eq hd, hk, seqOf_eq_some_iff.mpr hseq]
  have hexec := exec_answer_served hs (c := .fault t l drop seqByte code) ⟨rfl, rfl⟩ rfl h (by simp [NodeAnswer.body]) hj
  rwa [handleAnswer] at hexec

end

section
variable {v : State} {n : NodeIx} {q : Seq} {i : EntryIx} {e : Entry} (hl : v.liveAt n q = some i) (he : v.entry i = some e)
include hl he

theorem onSegment_read (hk : e.kind = .read) (last : Bool) (offset : Nat) (data : List Byte) :
    onSegment n q last offset data v = readSegment n q i e last offset data v := by
  simp only [onSegment, hl, he, hk]

theorem onSegment_write (hk : e.kind = .write) (last : Bool) (offset : Nat) (data : List Byte) :
    onSegment n q last offset data v = writeSegment n q i e last data v := by
  simp only [onSegment, hl, he, hk]

theorem onFault_live (code : Byte) : onFault n q code v = finish (.nodeError code) i (sampleOf e v) := by
  simp only [onFault, hl, he]

end

theorem sampleOf_now (e : Entry) (s : State) : (sampleOf e s).now = s.now := (State.kept_eq (sampleOf_kept e s)).1

/-! ## A live READ -/

/-- The part with the bytes of a segment placed and counted in its READ (R38, R112). -/
def segmentPlaced (i : EntryIx) (e : Entry) (data : List Byte) (v : State) : State :=
  { v with buffer := storeBytes (grownBlocks v e data) e.received (takenBytes e data) v.buffer }.setEntry i
    (some (e.withData (grownBlocks v e data) data))

/-- A segment that is taken is placed and sampled; then the last flag completes the READ, or it is PARTIAL with its deadline
restarted (R112, R113, R114). -/
theorem takeSegment_live {q : Seq} {e : Entry} (hq : e.phase.liveSeq = some q) (n : NodeIx) (i : EntryIx) (last : Bool)
    (data : List Byte) (v : State) :
    takeSegment n q i e last data v =
      (let filled := e.withData (grownBlocks v e data) data
      let sampled := sampleOf e (segmentPlaced i e data v)
      leaveAck n ⟨q, filled.received, .accepted⟩
        (if last then finish (completionStatus filled) i sampled
        else sampled.setEntry i (some { filled with phase := .part q (v.now + 10 * deadlineTicks sampled n) }))) := by
  have hphase : ∀ d, (e.withData (grownBlocks v e data) data).phase.continued d = .part q d := Phase.continued_live hq
  have hend : deadlineEnd (sampleOf e (segmentPlaced i e data v)) n =
      v.now + 10 * deadlineTicks (sampleOf e (segmentPlaced i e data v)) n := by
    rw [deadlineEnd, sampleOf_now, ticks_eq]
    rfl
  dsimp only
  rw [← hend, ← hphase]
  rfl

/-- The sample of an entry that an answer takes out of ISSUED (R92). -/
theorem sampleOf_eq {e : Entry} {n : NodeIx} (hn : e.node = n) (s : State) :
    sampleOf e s =
      match e.phase with
      | .issued _ _ _ accepted => takeSample n accepted s
      | _ => s := by
  subst hn
  unfold sampleOf
  cases e.phase <;> rfl

/-- A live entry is ISSUED or PARTIAL. -/
theorem Phase.live_cases {r : Phase} {q : Seq} (h : r.liveSeq = some q) :
    (∃ d f a, r = .issued q d f a) ∨ ∃ d, r = .part q d := by
  cases r <;> simp_all [Phase.liveSeq]

/-- Settles O47: the blocks are the READ's own with the first of the free pool, and the bytes are placed in them. -/
theorem segmentIsTaken : Obligations.SegmentIsTaken := by
  intro t l drop seqByte flags offset data seq x b i e s hs h hk hd hseq hlen he hn hq hread hoff taken needed hroom
  have hexec := exec_segment_served hs hk hd hseq hlen h
  obtain ⟨-, -, -, hb⟩ := h
  have htaken : taken = (takenBytes e data).length := (length_takenBytes e data).symm
  have hneeded : needed = newBlocks e data := (newBlocks_eq e data).symm
  have hl : (s.served t l x b).liveAt x.node seq = some i := by
    rw [served_liveAt]
    exact liveAt_eq_some hs.core.seq hb he hn hq
  have he' : (s.served t l x b).entry i = some e := by rw [served_entry, he]
  rw [hneeded] at hroom
  rw [onSegment_read hl he' hread, readSegment, if_pos hoff, if_pos (by rwa [served_freeBlocks])] at hexec
  obtain ⟨hplaced, hframe⟩ := storeBytes_grown hs.core he data hroom
  have haddr : ∀ k, blockAddress (grownBlocks s e data) k =
      16 * ((e.blocks ++ s.freeBlocks.take (newBlocks e data)).getD (k / 16) 0).val + k % 16 := fun k =>
    congrArg (· + k % 16) (Nat.mul_comm ..)
  refine ⟨s.freeBlocks.take (newBlocks e data), storeBytes (grownBlocks s e data) e.received (takenBytes e data) s.buffer, _,
    hexec, ?_, ?_, fun c hc => ?_, ⟨fun k hk => ?_, fun a ha => ?_⟩, ?_⟩
  · rw [List.length_take, Nat.min_eq_left hroom, hneeded]
  · exact ((List.nodup_finRange 96).filter _).sublist (List.take_sublist _ _)
  · simpa [State.freeBlocks] using (List.mem_filter.mp (List.mem_of_mem_take hc)).2
  · exact (congrArg (bufferRead _) (haddr _).symm).trans (hplaced k (htaken ▸ hk))
  · exact hframe a fun k hk => (haddr _).symm ▸ ha k (htaken ▸ hk)
  · rw [takeSegment_live hq, served_now, htaken]
    have hgrown : grownBlocks (s.served t l x b) e data = grownBlocks s e data := by simp [grownBlocks]
    have hplacing : segmentPlaced i e data (s.served t l x b) =
        { s.served t l x b with buffer := storeBytes (grownBlocks s e data) e.received (takenBytes e data) s.buffer }.setEntry i
          (some (e.withData (grownBlocks s e data) data)) := by
      rw [segmentPlaced, hgrown, served_buffer]
    rw [hgrown, hplacing, sampleOf_eq hn]
    rfl

/-- The phase of a live entry whose deadline restarts (R100). -/
theorem Phase.withDeadline_eq {r : Phase} {q : Seq} (d : Time) : r.liveSeq = some q →
    r.withDeadline d =
      match r with
      | .issued _ _ firstPoll accepted => .issued q d firstPoll accepted
      | _ => .part q d := by
  intro h
  rcases Phase.live_cases h with ⟨d', f, a, rfl⟩ | ⟨d', rfl⟩ <;> rfl

/-- The deadline of a live entry restarted once an answer has been served (R100). -/
theorem restartDeadline_served {s : State} {i : EntryIx} {e : Entry} {x : Exchange} {b : BoundNode} (he : s.entry i = some e)
    (hn : e.node = x.node) (hb : s.bound x.node = some b) (t : Time) (l : LineIx) :
    restartDeadline i (s.served t l x b) = (s.served t l x b).setEntry i
      (some { e with phase := e.phase.withDeadline (max s.now t + 10 * deadlineTicks s x.node) }) := by
  rw [← served_deadlineEnd hb t l, ← hn]
  simp only [restartDeadline, served_entry, he]

/-- Settles O48: an offset other than the resume offset is dropped, and one without blocks is held. -/
theorem segmentIsHeldOrDropped : Obligations.SegmentIsHeldOrDropped := by
  intro t l drop seqByte flags offset data seq x b i e s hs h hk hd hseq hlen he hn hq hread
  have hexec := exec_segment_served hs hk hd hseq hlen h
  obtain ⟨-, -, -, hb⟩ := h
  have hl : (s.served t l x b).liveAt x.node seq = some i := by
    rw [served_liveAt]
    exact liveAt_eq_some hs.core.seq hb he hn hq
  have he' : (s.served t l x b).entry i = some e := by rw [served_entry, he]
  rw [onSegment_read hl he' hread, readSegment] at hexec
  have hrestart := restartDeadline_served he hn hb t l
  rw [Phase.withDeadline_eq _ hq] at hrestart
  refine ⟨fun hoff => ?_, fun hoff hfull => ?_⟩
  · rw [hexec, if_neg hoff, dropSegment, hrestart]
    rfl
  · rw [hexec, if_pos hoff, if_neg (by rw [served_freeBlocks, newBlocks_eq]; exact not_le.mpr hfull), holdSegment, hrestart,
      served_now]
    rfl

/-! ## A live WRITE, and FAULT -/

theorem restartDeadline_setEntry (i : EntryIx) (f : Entry) (s : State) :
    restartDeadline i (s.setEntry i (some f)) =
      s.setEntry i (some { f with phase := f.phase.withDeadline (deadlineEnd s f.node) }) := by
  simp only [restartDeadline, State.setEntry_entry_same, State.setEntry_setEntry]
  rfl

/-- Settles O49: the record with EXCESS noted is completed by the last flag, and continued without it. -/
theorem segmentCompletesAWrite : Obligations.SegmentCompletesAWrite := by
  intro t l drop seqByte flags offset data seq x b i e deadline firstPoll accepted s hs h hk hd hseq hlen he hn hp hwrite
  have hexec := exec_segment_served hs hk hd hseq hlen h
  obtain ⟨-, -, -, hb⟩ := h
  have hl : (s.served t l x b).liveAt x.node seq = some i := by
    rw [served_liveAt]
    exact liveAt_eq_some hs.core.seq hb he hn (by rw [hp]; rfl)
  have he' : (s.served t l x b).entry i = some e := by rw [served_entry, he]
  rw [hexec, onSegment_write hl he' hwrite, writeSegment]
  cases flags.getLsbD 0 with
  | true =>
    rw [if_pos rfl, sampleOf_eq hn, hp]
    rfl
  | false =>
    rw [if_neg Bool.false_ne_true, restartDeadline_setEntry, hn, served_deadlineEnd hb, hp]
    rfl

/-- Settles O50: the live entry is sampled while it is ISSUED and ends with the node's code. -/
theorem faultEndsTheEntry : Obligations.FaultEndsTheEntry := by
  intro t l drop seqByte code seq x b i e s hs h hk hd hseq he hn hq
  have hexec := exec_fault_served hs hk hd hseq h
  have howes := served_owesNothing hs h (by simp [hk])
  obtain ⟨-, -, -, hb⟩ := h
  have hl : (s.served t l x b).liveAt x.node seq = some i := by
    rw [served_liveAt]
    exact liveAt_eq_some hs.core.seq hb he hn hq
  have he' : (s.served t l x b).entry i = some e := by rw [served_entry, he]
  rw [onFault_live hl he', sampleOf_eq hn] at hexec
  refine ⟨hexec, ends_owesNothing ((owesNothing_finish ..).mpr ?_) l⟩
  cases e.phase with
  | issued => exact (owesNothing_takeSample ..).mpr howes
  | _ => exact howes

end Sys2Proof.Machine
end

section
/-! PROOFS. Answers under a seq that is not live, and PENDING. -/

namespace Sys2Proof.Machine

/-! ## Late and unexpected answers -/

theorem served_isAbandoned {s : State} {x : Exchange} {b : BoundNode} (hb : s.bound x.node = some b) (t : Time) (l : LineIx)
    (q : Seq) : (s.served t l x b).isAbandoned x.node q = b.abandoned.contains q := by
  rw [State.isAbandoned, served_bound hb]
  rfl

/-- An answer under a seq that is not live is LATE or UNEXPECTED (R108). -/
theorem onSegment_dead {v : State} {n : NodeIx} {q : Seq} (h : v.liveAt n q = none) (last : Bool) (offset : Nat)
    (data : List Byte) : onSegment n q last offset data v = deadAnswer n q v := by
  simp only [onSegment, h]

theorem onFault_dead {v : State} {n : NodeIx} {q : Seq} (h : v.liveAt n q = none) (code : Byte) :
    onFault n q code v = deadAnswer n q v := by
  simp only [onFault, h]

theorem unexpectedAnswer_eq (n : NodeIx) (q : Seq) (s : State) :
    unexpectedAnswer n q s = raiseBoth .unexpected (s.modNode n fun r =>
      { r with
        counters := { r.counters with unexpected := bump r.counters.unexpected }
        bound := r.bound.map fun b => { b with pendingAck := some ⟨q, 0, .discard⟩ } }) := by
  rw [unexpectedAnswer, leaveAck, noteUnexpected, State.modBound, State.modNode_modNode]
  rfl

/-- Settles O51: the seq is live at no entry, and the node's abandoned set tells LATE from UNEXPECTED. -/
theorem deadAnswersAreDiscarded : Obligations.DeadAnswersAreDiscarded := by
  intro t l drop seqByte flags code offset data seq x b s hs hk hd hseq hlen hdead dropped
  have hdropped : s.bound x.node = some b → deadAnswer x.node seq (s.served t l x b) = dropped := fun hb => by
    rw [deadAnswer, served_isAbandoned hb]
    by_cases hq : seq ∈ b.abandoned
    · rw [if_pos (List.contains_iff_mem.mpr hq)]
      exact (if_pos hq).symm
    · rw [if_neg (mt List.contains_iff_mem.mp hq), unexpectedAnswer_eq]
      exact (if_neg hq).symm
  have hl : (s.served t l x b).liveAt x.node seq = none := by rw [served_liveAt, liveAt_eq_none hdead]
  refine ⟨fun h => ?_, fun h => ?_⟩
  · rw [exec_segment_served hs hk hd hseq hlen h, onSegment_dead hl, hdropped h.2.2.2]
  · rw [exec_fault_served hs hk hd hseq h, onFault_dead hl, hdropped h.2.2.2]

/-! ## PENDING -/

section
variable (s : State) (t : Time) (l : LineIx) (x : Exchange) (b : BoundNode)

@[simp] theorem served_holds (i : EntryIx) (f : Entry → Bool) : (s.served t l x b).holds i f = s.holds i f := by
  unfold State.served
  cases b.health <;> rfl

@[simp] theorem served_entriesWhere (f : Entry → Bool) : (s.served t l x b).entriesWhere f = s.entriesWhere f := by
  unfold State.served
  cases b.health <;> rfl

@[simp] theorem served_byStamp (is : List EntryIx) : (s.served t l x b).byStamp is = s.byStamp is := by
  unfold State.served
  cases b.health <;> rfl

end

theorem retryable_served (s : State) (t : Time) (l : LineIx) (x : Exchange) (b : BoundNode) (n : NodeIx)
    (f : BoundNode → BoundNode) (e : Entry) :
    retryable ((s.served t l x b).modBound n f) n e = (e.kind == .read && e.retries < (s.node n).params.retryLimit) := by
  have hparams : (((s.served t l x b).modBound n f).node n).params = (s.node n).params := by simp [State.modBound_node]
  rw [retryable, hparams]

/-- The lost entries once the answer has been served are those the answer finds (R122). -/
theorem settleLost_served (s : State) (t : Time) (l : LineIx) (x : Exchange) (b : BoundNode) (n : NodeIx) (listed : List Seq)
    (f : BoundNode → BoundNode) :
    settleLost n listed ((s.served t l x b).modBound n f) =
      (let lost := s.byStamp (s.entriesWhere fun e => e.node == n && e.phase.liveSeq.any fun q => !listed.contains q)
      let again := fun i => s.holds i fun e => e.kind == .read && e.retries < (s.node n).params.retryLimit
      finishAll .lost (lost.filter fun i => !again i)
        (returnToReady true n (lost.filter again) ((s.served t l x b).modBound n f))) := by
  have hretry := retryable_served s t l x b n f
  simp only [settleLost, lostEntries, State.modBound_byStamp, State.modBound_entriesWhere, served_byStamp, served_entriesWhere,
    State.modBound_holds, served_holds, funext hretry]

theorem listsForeign_served {s : State} {x : Exchange} {b : BoundNode} (hb : s.bound x.node = some b) (t : Time) (l : LineIx)
    (listed : List Seq) :
    listsForeign (s.served t l x b) x.node listed =
      listed.any fun q => !(s.liveSeqs x.node).contains q && !b.abandoned.contains q := by
  simp only [listsForeign, served_liveSeqs, served_isAbandoned hb]

theorem owesNothing_modNode {s : State} {n : NodeIx} (h : s.owesNothing n) (m : NodeIx) {f : NodeRec → NodeRec}
    (hf : ∀ r, (f r).bound = r.bound) : (s.modNode m f).owesNothing n := by
  refine (owesNothing_congr (State.outlineAt_congr (fun k => ?_) n)).mpr h
  rw [State.modNode_bound, hf]
  split
  · rename_i hm
    rw [← hm]
    rfl
  · rfl

theorem exec_pending_served {t : Time} {l : LineIx} {drop : Byte} {seqs : List Byte} {listed : List Seq} {x : Exchange}
    {b : BoundNode} {s : State} (hs : Lawful s) (hk : x.kind = .poll) (hd : drop.toNat = x.drop.val)
    (hseqs : seqs = listed.map fun q => byteOf q.val) (hnd : listed.Nodup)
    (h : serves s t l x b (answerBytes 0x85 drop seqs)) :
    exec (.pending t l drop seqs) s = .next (retest s (releaseLine l (onPending x.node listed (s.served t l x b)))) := by
  have hlen : seqs.length ≤ 16 := by simpa [hseqs] using hnd.length_le_card
  have hj : judgeAnswer x drop (.pending seqs) = .valid (.pending listed) := by
    simp [judgeAnswer, dropOf_of_eq hd, hk, seqsOf_eq_some_iff.mpr hseqs, hlen, hnd]
  have hexec := exec_answer_served hs (c := .pending t l drop seqs) ⟨rfl, rfl⟩ rfl h (hlen.trans (by decide)) hj
  rwa [handleAnswer] at hexec

/-- Settles O52: the handler reconciles the node's seqs as they stand before it, whose entries the served answer leaves. -/
theorem pendingIsReconciled : Obligations.PendingIsReconciled := by
  intro t l drop listed x b s hs h hk hd hnd
  have hexec := exec_pending_served hs hk hd rfl hnd h
  have howes := served_owesNothing hs h (by simp [hk])
  obtain ⟨-, -, -, hb⟩ := h
  have hback : ∀ c : BoundNode, (s.served t l x b).now + ticks (pollBackOff c.e) = max s.now t + 10 * max (c.e / 4) 5 :=
    fun c => by rw [served_now, ticks_eq, pollBackOff]
  rw [onPending, settleLost_served, listsForeign_served hb, noteUnexpected] at hexec
  simp only [hback] at hexec
  refine ⟨hexec, ends_owesNothing ?_ l⟩
  have hdrained := owesNothing_modBound howes x.node
    (f := fun b => { b with abandoned := b.abandoned.filter (listed.contains ·) }) fun _ => id
  refine owesNothing_modBound ?_ x.node fun _ => id
  have hsettled := fun ended again =>
    (owesNothing_finishAll .lost ended).mpr ((owesNothing_returnToReady true x.node again).mpr hdrained)
  split
  · exact (owesNothing_raiseBoth ..).mpr (owesNothing_modNode (hsettled _ _) x.node fun _ => rfl)
  · exact hsettled _ _

end Sys2Proof.Machine
end

section
/-! PROOFS. A deadline that is reached. -/

namespace Sys2Proof.Machine

/-- The node of an expiring deadline with its seq abandoned and the timeout counted (R62, R65, R102). -/
theorem countTimeout_abandonSeq (n : NodeIx) (q : Seq) (s : State) :
    countTimeout n (abandonSeq n q s) = s.modNode n fun r =>
      { r with
        counters := { r.counters with timeouts := bump r.counters.timeouts }
        bound := r.bound.map fun b => { b with abandoned := withSeq q b.abandoned, timeouts := min (b.timeouts + 1) 15 } } := by
  rw [countTimeout, abandonSeq, State.modBound, State.modNode_modNode]
  refine State.modNode_congr ?_
  simp only [Function.comp_apply, Option.map_map, bumpCount_eq_min]
  rfl

/-- An expired READ below the retry limit returns to READY charged, any other entry ends with TIMEOUT (R102). -/
theorem expireEntry_eq (i : EntryIx) (e : Entry) (q : Seq) (s : State) :
    expireEntry i e q s =
      (let counted := s.modNode e.node fun r =>
        { r with
          counters := { r.counters with timeouts := bump r.counters.timeouts }
          bound := r.bound.map fun b => { b with abandoned := withSeq q b.abandoned, timeouts := min (b.timeouts + 1) 15 } }
      if e.kind = .read ∧ e.retries < (s.node e.node).params.retryLimit then returnToReady true e.node [i] counted
      else finish .timeout i counted) := by
  unfold expireEntry
  rw [countTimeout_abandonSeq]
  exact if_congr (by simp [retryable]) rfl rfl

section
variable {s : State} {i : EntryIx} {e : Entry} {q : Seq} {b : BoundNode} (he : s.entry i = some e)
  (hq : e.phase.liveSeq = some q) (hb : s.bound e.node = some b)
include he hq hb

/-- The node's record once an expired entry has been settled: its health stays and its timeout is counted (R65, R103). -/
theorem expireEntry_node : ((expireEntry i e q s).node e.node).params = (s.node e.node).params ∧
    ∃ b', (expireEntry i e q s).bound e.node = some b' ∧ b'.health = b.health ∧ b'.timeouts = min (b.timeouts + 1) 15 := by
  have hopen : e.phase.isOpen = true := Phase.isOpen_of_liveSeq (by rw [hq]; rfl)
  have hb' : (s.node e.node).bound = some b := hb
  have he' : (countTimeout e.node (abandonSeq e.node q s)).entry i = some e := he
  have hparams : ((countTimeout e.node (abandonSeq e.node q s)).node e.node).params = (s.node e.node).params := by
    rw [countTimeout_abandonSeq, State.modNode_node, if_pos rfl]
  have hcounted : (countTimeout e.node (abandonSeq e.node q s)).bound e.node =
      some { b with abandoned := withSeq q b.abandoned, timeouts := min (b.timeouts + 1) 15 } := by
    rw [countTimeout_abandonSeq, State.modNode_bound, if_pos rfl, hb', Option.map_some]
  unfold expireEntry
  dsimp only
  split
  · rw [returnToReady_node, returnToReady_bound, if_pos rfl, if_pos rfl, hcounted]
    exact ⟨hparams, _, rfl, rfl, rfl⟩
  · rw [finish_node he' hopen, finish_bound he' hopen, hcounted]
    exact ⟨hparams, _, rfl, rfl, by simp [BoundNode.afterFinish, Status.delivers]⟩

/-- The threshold that an expiry brings a node in service to (R65). -/
theorem timedOut_expireEntry (hservice : b.health.inService = true) :
    timedOut (expireEntry i e q s) e.node = true ↔
      ∃ b ∈ s.bound e.node, (s.node e.node).params.timeoutThreshold ≤ min (b.timeouts + 1) 15 := by
  obtain ⟨hparams, b', hb', hhealth, htimeouts⟩ := expireEntry_node he hq hb
  rw [timedOut, hb', hb]
  dsimp only
  rw [hhealth, hparams, htimeouts]
  cases hh : b.health <;> simp_all [Health.inService]

end

/-- The deadline of a live entry acts once now has reached it (R101, R102; log entry 9). -/
theorem deadlineReached_live {s : State} {i : EntryIx} {e : Entry} {q : Seq} {deadline : Time} (he : s.entry i = some e)
    (hp : e.phase = .part q deadline ∨ ∃ first accepted, e.phase = .issued q deadline first accepted) :
    deadlineReached i s = if deadline ≤ s.now then expireDeadline i e q s else s := by
  unfold deadlineReached
  rcases hp with hp | ⟨f, a, hp⟩ <;> simp only [he, hp]

/-- Settles O53: the entry expires as `expireEntry` has it, and the threshold is read from the node's counted timeout. -/
theorem deadlineExpiryAbandonsTheSeq : Obligations.DeadlineExpiryAbandonsTheSeq := by
  intro t i s hs hrun
  have hexec : exec (.deadlineExpiry t i) s = .next (deadlineReached i (s.advance t)) :=
    congrArg Host.Outcome.next (whenRunning_high hrun)
  refine ⟨fun hnone => ?_, fun e q deadline he hp => ?_⟩
  · rw [hexec]
    refine congrArg Host.Outcome.next ?_
    unfold deadlineReached
    rw [State.advance_entry]
    cases he : s.entry i with
    | none => rfl
    | some e =>
      have := hnone e he
      cases hp : e.phase <;> simp_all [Phase.liveSeq]
  · have hq : e.phase.liveSeq = some q := by
      rcases hp with hp | ⟨f, a, hp⟩ <;> rw [hp] <;> rfl
    have he' : (s.advance t).entry i = some e := he
    obtain ⟨b, hb, hservice⟩ := hs.core.node.2.2.2 i e he (by rw [hq]; rfl)
    rw [hexec, deadlineReached_live he' hp, expireDeadline_eq, retest_advance]
    refine congrArg Host.Outcome.next (if_congr Iff.rfl (congrArg (retest s) ?_) rfl)
    have hsettled := expireEntry_eq i e q (s.advance t)
    exact if_congr (timedOut_expireEntry he' hq hb hservice) (congrArg (goOffline e.node) hsettled) hsettled

end Sys2Proof.Machine
end
